-- ==== Sys2Proof/Word.lean ====
section
/-! DEFINITION. The byte, the one word the part moves over its two ports as bits (11 R175, 01 R13). Every other quantity
of the spec is a number with a range, and is held as a `Nat` or an `Int`. -/

namespace Sys2Proof

/-- A byte of a frame of the Controller Link or of the machine bus. -/
abbrev Byte := BitVec 8

end Sys2Proof
end

