-- ==== Sys2Proof/Syntax.lean ====
section
/-! DEFINITION. The commands: one constructor for each row of spec/opcode_table.json, with the operands the rules of that
row need (log entries 1, 9, 12, 13 and 18 say where an operand carries what the outside decides). -/

namespace Sys2Proof

/-- A frame received without error (01 R1): a 29-bit or an 11-bit identifier, data or remote, sent by another node or by
the port itself, its data length code and its data bytes. -/
structure CanFrame where
  extended : Bool
  remote   : Bool
  own      : Bool
  ident    : Nat
  dlc      : Nat
  data     : List Byte
deriving DecidableEq, Repr

/-- The two cab lamps (09 R156). -/
inductive Lamp where
  | red
  | amber
deriving DecidableEq, Repr

/-- The commands of the block, in the order of the table. -/
inductive Instr where
  /-- FRAME_ARRIVAL (R3). -/
  | frameArrival (frame : CanFrame)
  /-- SOURCE_TIMEOUT_EXPIRY (R6) of one slot. -/
  | sourceTimeoutExpiry (slot : Fin 8)
  /-- PERIOD_TIMER_EXPIRY (R14); the operand says whether an attempt of the ending period's message is on the bus. -/
  | periodTimerExpiry (attemptOnBus : Bool)
  /-- TRANSMISSION_ATTEMPT_END (R13). -/
  | transmissionAttemptEnd (acknowledged : Bool)
  /-- RECOVERY_TIMER_EXPIRY (R15). -/
  | recoveryTimerExpiry
  /-- STEP (R20): the new levels of SLEW_A and SLEW_B, true for high. -/
  | slewStep (a b : Bool)
  /-- INDEX_MARK (R23): SLEW_Z goes high. -/
  | indexMark
  /-- GATE_TIMER_EXPIRY (R28). -/
  | gateTimerExpiry
  /-- EDIT_TIMER_EXPIRY (R59). -/
  | editTimerExpiry
  /-- HOLD_TIMER_EXPIRY (R100). -/
  | holdTimerExpiry
  /-- AUTO_IDLE_TIMER_EXPIRY (R113). -/
  | autoIdleTimerExpiry
  /-- SHUTDOWN_TIMER_30S_LEFT (R115). -/
  | shutdownTimerLeft
  /-- SHUTDOWN_TIMER_EXPIRY (R114). -/
  | shutdownTimerExpiry
  /-- SHUTDOWN_WAIT_EXPIRY (R114). -/
  | shutdownWaitExpiry
  /-- QUANTUM_COMPLETION (R122). -/
  | quantumCompletion
  /-- FLASH_TIMER_EXPIRY (R156). -/
  | flashTimerExpiry (lamp : Lamp)
  /-- STRETCH_TIMER_EXPIRY (R156). -/
  | stretchTimerExpiry (lamp : Lamp)
  /-- RAMP_INTERVAL_EXPIRY (R163): the current sensed in each millisecond of the interval that ends, mA, latest first (R164). -/
  | rampIntervalExpiry (channel : Fin 4) (sensed : List Nat)
  /-- OVER_CURRENT (R166): the sensed current, mA. -/
  | overCurrent (channel : Fin 4) (sensed : Nat)
  /-- SUPPLY_VOLTAGE_CHANGE (R168): the voltage on VSUP_SNS, 0.1 V. -/
  | supplyVoltageChange (voltage : Nat)
  /-- DOWN_QUALIFICATION_EXPIRY (R168). -/
  | downQualificationExpiry
  /-- UP_QUALIFICATION_EXPIRY (R168). -/
  | upQualificationExpiry
  /-- DURATION_TIMER_EXPIRY (R172). -/
  | durationTimerExpiry
  /-- SERVICE_KEY_RELEASE (R172). -/
  | serviceKeyRelease
  /-- TRANSACTION_START (R175): CS_N falls. -/
  | transactionStart
  /-- TRANSACTION_END (R177): CS_N rises; the whole bytes clocked in on SDI. -/
  | transactionEnd (sdi : List Byte)
  /-- RESPONSE_READY (R178). -/
  | responseReady
  /-- READ_ENTRY (R181). -/
  | readEntry (table index : Byte)
  /-- PUT_ENTRY (R181). -/
  | putEntry (table index : Byte) (payload : List Byte)
  /-- RETIRE_ENTRY (R181). -/
  | retireEntry (table index : Byte)
  /-- LIST_TABLE (R181). -/
  | listTable (table : Byte)
  /-- OPEN_ZONES (R57). -/
  | openZones
  /-- CLOSE_ZONES (R58). -/
  | closeZones
  /-- SELECT_TARGET (R94): a surface index, or 254 for NONE. -/
  | selectTarget (index : Byte)
  /-- SET_WORK_MODE (R108). -/
  | setWorkMode (index : Byte)
  /-- SERVICE_DONE (R141). -/
  | serviceDone (index : Byte)
  /-- ACK_HEAD (R153). -/
  | ackHead
  /-- ACK_NOTICE (R153): a catalogue number. -/
  | ackNotice (number : Byte)
  /-- ACK_ALL (R153). -/
  | ackAll
  /-- READ_NOTICES (R155). -/
  | readNotices
  /-- READ_POSE (R43). -/
  | readPose
  /-- READ_GUIDANCE (R103). -/
  | readGuidance
  /-- READ_LIMITS (R86). -/
  | readLimits
  /-- READ_ECONOMY (R125). -/
  | readEconomy
  /-- CLEAR_SHIFT (R124). -/
  | clearShift
  /-- READ_DRIVE (R173). -/
  | readDrive
  /-- CLEAR_VALVE_FAULT (R167). -/
  | clearValveFault (channel : Byte)
  /-- DRIVE_TEST (R171): channel, current in mA, duration in ms. -/
  | driveTest (channel : Byte) (current duration : BitVec 16)
  /-- DRIVE_TEST_STOP (R172). -/
  | driveTestStop
  /-- CLEAR_RETAINED (R186). -/
  | clearRetained
  /-- RESTART (R185). -/
  | restart
  /-- RESET_N_ASSERTED (R185): RESET_N goes low. -/
  | resetNAsserted
  /-- RESET (R185): RESET_N is released. -/
  | reset
  /-- POWER_ON (R184): VDD comes up. -/
  | powerOn
  /-- POWER_LOSS (R183): VDD is lost. -/
  | powerLoss
  /-- BACKUP_DROPPED (R184): VBACKUP falls below 2.0 V. -/
  | backupDropped
  /-- SERVICE_KEY_ASSERTED (R136): SERVICE_KEY_N goes low. -/
  | serviceKeyAsserted
  /-- SLEW_Z_FALL (R23): SLEW_Z goes low. -/
  | slewZFall
deriving DecidableEq, Repr

end Sys2Proof
end

