-- ==== Sys2Proof/Decode.lean ====
section
/-! DEFINITION. The command that a word spells by the bits of spec/opcode_table.json. No row of the table gives bits (each
row's "fields" is empty and none has "fixed"), so no word spells a command. How a request FRAME of the Controller Link
spells one is `Sys2Proof.Machine.commandOf` in Machine/Link.lean (11 Table 11-2). -/

namespace Sys2Proof

/-- No row of the table gives bits: no word spells a command. -/
def decodeTableWord (_nbits _w : Nat) : Option Instr := none

end Sys2Proof
end

