-- ==== Sys2Proof/Config.lean ====
section
/-! DEFINITION. What the part fixes once and for all (times that are not settings), and the free values. -/

namespace Sys2Proof.Config

/-- Demand period, ms (01 R12). -/
def demandPeriod : Nat := 50
/-- BUS_OFF recovery time, ms (01 R15). -/
def recoveryTime : Nat := 1000
/-- Consecutive unsent periods that lead to BUS_OFF (01 R14). -/
def unsentLimit : Nat := 16
/-- Gate of the Slew Counter, ms (02 R28). -/
def gateTime : Nat := 10
/-- Floor hold time, ms (06 R99). -/
def holdTime : Nat := 500
/-- Shutdown wait time, ms (07 R114). -/
def shutdownWait : Nat := 30000
/-- What the shutdown timer has left when SHUTDOWN_PENDING becomes present, ms (07 R115). -/
def shutdownWarning : Nat := 30000
/-- One quantum of running time, ms (07 R120). -/
def quantum : Nat := 36000
/-- One unit of fuel used, in 0.1 L/h times ms (07 R123). -/
def fuelUnit : Nat := 3600000
/-- A phase of a flashing lamp, ms (09 R156). -/
def flashPhase : Nat := 500
/-- Places of the Notice List (09 R150). -/
def listPlaces : Nat := 8
/-- Ramp interval, ms (10 R163). -/
def rampInterval : Nat := 10
/-- Values of sensed current that the measured average spans, one a millisecond (10 R164). -/
def sensedWindow : Nat := 20
/-- Supply qualification below the down threshold, ms (10 R168). -/
def downTime : Nat := 20
/-- Supply qualification at or above the up threshold, ms (10 R168). -/
def upTime : Nat := 100
/-- Expiries at which OPEN_LOAD must have been found: the first and those over 100 ms after it (10 R166). -/
def openLoadExpiries : Nat := 11
/-- Expiries at which NOT_REACHED must have been found: the first and those over 300 ms after it (10 R166). -/
def notReachedExpiries : Nat := 31

/-- FREE VALUE (log entry 17). What the four-byte field "ms since last sample" of READ_ENTRY on SOURCES carries when the
time no longer fits below the absent mark; the spec (01 R10, 11 Table 11-4) states no value. -/
opaque ageBeyondField : Nat → Nat

/-- FREE VALUE (log entry 12). Whether a measured average that is no whole number of mA is rounded up: the sum of the sensed
currents and their number. The spec (10 R164) states no rounding. -/
opaque meanRoundsUp : Nat → Nat → Bool

/-- FREE VALUE (log entry 36). The level of READY while the part does not run, by time; the spec (11 R185) gives none. -/
opaque readyNotRunning : Nat → Bool

/-- FREE VALUE (log entry 36). What SDO carries while the part does not run, by time and place; the spec (11 R175, R185) gives
nothing. -/
opaque sdoNotRunning : Nat → Nat → BitVec 8

/-- FREE VALUE (log entry 36). The level of VOUTn while the part does not run, in thousandths of a mA, by time and channel; the
spec (10 R164, R174, 11 R185) gives none. -/
opaque outputNotRunning : Nat → Nat → Nat

end Sys2Proof.Config
end

