-- ==== Sys2Proof/Machine/Types.lean ====
section
/-! DEFINITION. The records and states of the twelve blocks (00 Table 1-1), each as its rule gives it. All plain data. -/

namespace Sys2Proof.Machine

/-- A timer: stopped, or running with so many milliseconds left (log entry 2). -/
abbrev Timer := Option Nat

/-! ## Machine Bus Port (01) -/

/-- R2; encoded 0..4 in this order. -/
inductive SourceState where
  | disabled | never | fresh | stale | implausible
deriving DecidableEq, Repr

/-- R2. -/
inductive ByteOrder where
  | lowFirst | highFirst
deriving DecidableEq, Repr

/-- The retained fields of one slot (R2). -/
structure SourceRecord where
  identifier : Option Nat
  offset     : Nat
  order      : ByteOrder
  lo         : Int
  hi         : Int
  timeout    : Nat
deriving DecidableEq, Repr

/-- The volatile fields of one slot (R2) with its timeout timer. -/
structure SourceSlot where
  state    : SourceState
  lastGood : Option Int
  lastTime : Option Nat
  timer    : Timer
deriving DecidableEq, Repr

/-- A Demand message as built (R12): its content, identifier and rolling counter do not change through its retries (R13). -/
structure DemandMessage where
  ident    : Nat
  speed    : Nat
  torque   : Nat
  idle     : Bool
  shutdown : Bool
  counter  : Nat
deriving DecidableEq, Repr

/-- The Machine Bus Port. `built` and `acked` belong to the running period (R14); `deferred` is set from a period expiry
that found an attempt on the bus until that attempt ends (R14). -/
structure Mbp where
  slots    : List SourceSlot
  busOff   : Bool
  rolling  : Nat
  unsent   : Nat
  built    : Bool
  acked    : Bool
  deferred : Bool
  waiting  : Option DemandMessage
  period   : Timer
  recovery : Timer
deriving DecidableEq, Repr

/-! ## Slew Counter (02) -/

/-- R30. -/
inductive RunDir where
  | none | left | right
deriving DecidableEq, Repr

/-- The Slew Counter's volatile state (R20 to R32). -/
structure Sc where
  count      : Nat
  referenced : Bool
  travel     : Nat
  gateAcc    : Int
  omega      : Int
  runDir     : RunDir
  runCount   : Nat
  gate       : Timer
deriving DecidableEq, Repr

/-! ## Pose Unit (03) -/

/-- The eight dimension and offset fields of the Geometry record (R33). -/
structure Dims where
  fr : Int
  fz : Int
  lb : Int
  ls : Int
  lk : Int
  ob : Int
  os : Int
  ok : Int
deriving DecidableEq, Repr

/-- The Geometry record (R33): SET while `dims` is present. -/
structure Geometry where
  dims : Option Dims
  dig  : Int
  dump : Int
deriving DecidableEq, Repr

/-- R43; encoded 0..2 in this order. -/
inductive Quality where
  | complete | noSlew | invalid
deriving DecidableEq, Repr

/-- The Pose record (R43). -/
structure Pose where
  seq     : Nat
  quality : Quality
  phi     : Option Nat
  omega   : Int
  r       : Option Int
  z       : Option Int
  x       : Option Int
  y       : Option Int
deriving DecidableEq, Repr

/-- The dig-cycle detector (R48). -/
inductive Detector where
  | waitDig | waitDump
deriving DecidableEq, Repr

/-- The Pose Unit: the held gate content, the held states of BOOM, STICK and BUCKET (R44), the Pose record, the detector. -/
structure Pu where
  gatePhi   : Nat
  gateRef   : Bool
  gateOmega : Int
  links     : List SourceState
  pose      : Pose
  detector  : Detector
deriving DecidableEq, Repr

/-! ## Zone Table (04) -/

/-- The classes, in the class order (00, Class order); encoded 0..3. -/
inductive Cls where
  | free | warn | slow | stop
deriving DecidableEq, Repr

/-- A sector entry (R51). -/
structure Sector where
  cls  : Cls
  firm : Bool
deriving DecidableEq, Repr

/-- R52; encoded 0..3 in this order. -/
inductive ZoneCondition where
  | always | tipAbove | tipBelow | reachBeyond
deriving DecidableEq, Repr

/-- An occupied zone entry (R52): ACTIVE or DORMANT. An EMPTY entry is `none` in the table. -/
structure Zone where
  active    : Bool
  start     : Nat
  width     : Nat
  condition : ZoneCondition
  limit     : Option Int
  cls       : Cls
  tag       : Nat
deriving DecidableEq, Repr

/-- The Zone Table's volatile state: mode, edit timer (R57, R69) and the engaged flags (R68). -/
structure Zt where
  isOpen  : Bool
  edit    : Timer
  engaged : List Bool
deriving DecidableEq, Repr

/-! ## Slew Limiter (05) -/

/-- R74; encoded 0..4 in this order. -/
inductive Basis where
  | zonesOff | noAngle | editHold | lookAhead | escape
deriving DecidableEq, Repr

/-- R74, R75; encoded 0..2 in this order. -/
inductive DirState where
  | opened | limited | blocked
deriving DecidableEq, Repr

/-- The limit record (R74). -/
structure LimitRecord where
  seq         : Nat
  basis       : Basis
  governing   : Option Cls
  left        : DirState
  right       : DirState
  leftLength  : Option Nat
  rightLength : Option Nat
  leftClass   : Option Cls
  rightClass  : Option Cls
  leftEscape  : Option Nat
  rightEscape : Option Nat
deriving DecidableEq, Repr

/-- The Slew Limiter: held pose and limit record (R73, R74). -/
structure Slm where
  held   : Pose
  record : LimitRecord
deriving DecidableEq, Repr

/-! ## Grade Guide (06) -/

/-- R88; encoded 0, 1. -/
inductive SurfaceKind where
  | grade | floor
deriving DecidableEq, Repr

/-- An occupied surface entry (R88): ACTIVE or DORMANT. An EMPTY entry is `none` in the table. -/
structure Surface where
  active : Bool
  kind   : SurfaceKind
  h0     : Int
  sx     : Int
  sy     : Int
  start  : Nat
  width  : Nat
  tag    : Nat
deriving DecidableEq, Repr

/-- R97; encoded 0..5 in this order. -/
inductive GuidanceState where
  | noTarget | noPose | outside | above | onGrade | below
deriving DecidableEq, Repr

/-- The Guidance record (R97). -/
structure Guidance where
  seq    : Nat
  target : Option Nat
  state  : GuidanceState
  d      : Option Int
deriving DecidableEq, Repr

/-- R98; encoded 0..5 in the order of R98's field table. -/
inductive FloorState where
  | none | clear | near | atFloor | holding | unavailable
deriving DecidableEq, Repr

/-- The floor record (R98). -/
structure FloorRecord where
  state  : FloorState
  held   : Option FloorState
  index  : Option Nat
  dF     : Option Int
  band   : Option Nat
  target : Nat
deriving DecidableEq, Repr

/-- The Grade Guide's volatile state (R96 to R104). -/
structure Gg where
  held     : Pose
  guidance : Guidance
  floor    : FloorRecord
  hold     : Timer
deriving DecidableEq, Repr

/-! ## Economy Controller (07) -/

/-- A work mode's figures (R106). -/
structure WorkMode where
  speed  : Nat
  torque : Nat
deriving DecidableEq, Repr

/-- The Shift Summary (R124). -/
structure Shift where
  idle   : Nat
  light  : Nat
  normal : Nat
  heavy  : Nat
  fuel   : Nat
deriving DecidableEq, Repr

/-- The Economy Controller's copy of one source (R110). -/
structure SourceCopy where
  state    : SourceState
  lastGood : Option Int
deriving DecidableEq, Repr

/-- R112, R116; encoded 0..4 in this order. -/
inductive EconomyState where
  | stopped | working | settling | idling | shutdownRequested
deriving DecidableEq, Repr

/-- The outcome of R110. -/
inductive EngineOutcome where
  | running | stopped | unknown
deriving DecidableEq, Repr

/-- R121. -/
inductive LoadClass where
  | idle | light | normal | heavy
deriving DecidableEq, Repr

/-- The Economy Controller's volatile state (R110 to R126). `gateStill` is the still threshold as it stood at the latest gate,
against which the speed of that gate is judged (R111; log entry 32). `overMs` is the model's own: running time that came in
while a completion of the quantum waits to be taken (R120; log entry 3). -/
structure Ec where
  copies    : List SourceCopy
  omega     : Int
  gateStill : Nat
  active    : Bool
  state     : EconomyState
  autoIdle  : Timer
  shutdown  : Timer
  wait      : Timer
  oilLatch  : Bool
  torque    : Nat
  partialMs : Nat
  overMs    : Nat
  pumpSum   : Int
  pumpCount : Nat
  prevFuel  : Option Nat
  fuelRem   : Nat
deriving DecidableEq, Repr

/-! ## Service Schedule (08) -/

/-- The states of an occupied item (R128, R130); encoded 1..4 in this order, EMPTY being 0. -/
inductive ItemState where
  | counting | due | overdue | critical
deriving DecidableEq, Repr

/-- R128; encoded 0..3 in this order. -/
inductive ServiceBasis where
  | engineHours | weightedHours | slewReversals | digCycles
deriving DecidableEq, Repr

/-- An occupied service item entry (R128). An EMPTY entry is `none` in the table. -/
structure Item where
  state     : ItemState
  basis     : ServiceBasis
  interval  : Nat
  lead      : Nat
  grace     : Nat
  stamp     : Option Nat
  cycles    : Option Nat
  timesDone : Nat
  derate    : Option Nat
  tag       : Nat
deriving DecidableEq, Repr

/-! ## Notice Unit (09) -/

/-- R145; encoded 0..2 in this order. -/
inductive NoticeState where
  | clear | raised | acked
deriving DecidableEq, Repr

/-- One record of the Notice Set (R145): notice state and held condition. -/
structure Notice where
  state : NoticeState
  cond  : Bool
deriving DecidableEq, Repr

/-- The severities of Table 9-1. -/
inductive Severity where
  | red | amber | info
deriving DecidableEq, Repr

/-- A report to the Notice Unit (R146): a condition, a cause with the condition as it stands after it, or a retirement. -/
inductive Report where
  | condition (number : Nat) (present : Bool)
  | cause (number : Nat) (present : Bool)
  | retirement (item : Nat)
deriving DecidableEq, Repr

/-- R156. -/
inductive LampMode where
  | off | flashing | steady | stretch
deriving DecidableEq, Repr

/-- A lamp controller (R156): state, phase while FLASHING, flash timer and stretch timer. -/
structure LampState where
  mode    : LampMode
  lit     : Bool
  flash   : Timer
  stretch : Timer
deriving DecidableEq, Repr

/-- The Notice Unit: Notice Set in catalogue order, Notice List head first, change flag, lamps (R145 to R156). -/
structure Nu where
  notices : List Notice
  list    : List Nat
  changed : Bool
  red     : LampState
  amber   : LampState
deriving DecidableEq, Repr

/-- R158; encoded 0..9 in this order. -/
inductive StatusFunction where
  | none | slewBlocked | slewRestricted | floorReached | onGrade | autoIdle | shutdownRequested | anyRed | anyService
  | valveFaultAny
deriving DecidableEq, Repr

/-! ## Valve Drive (10) -/

/-- A channel configuration (R160); `slow` is present on channels 0 and 1 only. -/
structure ChannelConfig where
  imax       : Nat
  start      : Nat
  slow       : Option Nat
  rampUp     : Nat
  rampDown   : Nat
  ditherAmp  : Nat
  ditherFreq : Nat
  mask       : Bool
deriving DecidableEq, Repr

/-- R166; encoded 0..2 in this order. -/
inductive FaultKind where
  | overCurrent | openLoad | notReached
deriving DecidableEq, Repr

/-- R165; encoded 0..2 in this order (log entry 14). -/
inductive ChannelState where
  | active | off | faulted
deriving DecidableEq, Repr

/-- A channel's volatile state: owner's target, commanded current, measured average, the sensed current of the last 20 ms at
most, one value a millisecond, latest first (R164; log entry 12), fault kind, the number of expiries over which each
qualification has stood (R166), ramp interval timer, and when the dither began (R164). -/
structure Channel where
  owner       : Nat
  commanded   : Nat
  measured    : Nat
  sensed      : List Nat
  fault       : Option FaultKind
  openQual    : Nat
  reachQual   : Nat
  ramp        : Timer
  ditherSince : Option Nat
deriving DecidableEq, Repr

/-- A running drive test (R171): its channel and test target. -/
structure DriveTest where
  channel : Nat
  current : Nat
deriving DecidableEq, Repr

/-- The Valve Drive's volatile state (R162 to R174). -/
structure Vd where
  chans     : List Channel
  supplyLow : Bool
  downQual  : Timer
  upQual    : Timer
  test      : Option DriveTest
  duration  : Timer
deriving DecidableEq, Repr

/-! ## Controller Link (11) -/

/-- R177. -/
inductive LinkState where
  | idle | working | ready
deriving DecidableEq, Repr

/-- Table 11-1; encoded 0..11 in this order. -/
inductive ResultCode where
  | ok | okClamped | badFrame | badRequest | badTable | badIndex | badValue | empty | full | notOpen | locked | state
deriving DecidableEq, Repr

/-- The reads. What one returns is settled when its response is prepared, not when it is requested (R178). -/
inductive ReadRequest where
  | entry (table index : Nat)
  | list (table : Nat)
  | pose | guidance | limits | economy | drive | notices
deriving DecidableEq, Repr

/-- What waits for the response of the request taken (R178; log entry 11): an action done, with its request code, result and
payload, or a read, whose content is formed when the response is prepared. -/
inductive Answer where
  | done (code : Nat) (result : ResultCode) (payload : List Byte)
  | read (request : ReadRequest)
deriving DecidableEq, Repr

/-- A transaction under way (R175): whether it began in READY, and the bytes that SDO carries before the filler. -/
structure Transaction where
  beganReady : Bool
  sdo        : List Byte
deriving DecidableEq, Repr

/-- The Controller Link (R175 to R178). -/
structure Link where
  state       : LinkState
  overlap     : Bool
  request     : Option (List Byte)
  answer      : Option Answer
  response    : Option (List Byte)
  transaction : Option Transaction
deriving DecidableEq, Repr

/-! ## Retained contents (11 R183), pins, power -/

/-- The SETTINGS table (11 Table 11-3). -/
structure Settings where
  canBitRate     : Nat
  demandId       : Option Nat
  demandEnable   : Bool
  cpr            : Nat
  indexPos       : Nat
  slipTol        : Nat
  minSwing       : Nat
  still          : Nat
  zoneLimiting   : Bool
  sectorMap      : Bool
  defaultClass   : Cls
  holdClass      : Cls
  noAngleClass   : Cls
  editTimeout    : Nat
  decel          : Nat
  margin         : Nat
  onGradeBand    : Nat
  floorBand      : Nat
  idleSpeed      : Nat
  runThreshold   : Nat
  autoIdleDelay  : Nat
  shutdownDelay  : Nat
  pilotThreshold : Nat
  idleTorque     : Nat
  oilStart       : Nat
  oilTorque      : Nat
  ratedPump      : Nat
  lampStretch    : Nat
  statusA        : StatusFunction
  statusALow     : Bool
  statusB        : StatusFunction
  statusBLow     : Bool
  supplyDown     : Nat
  supplyUp       : Nat
deriving DecidableEq, Repr

/-- Every retained record and setting (R183). -/
structure Retained where
  sources       : List SourceRecord
  settings      : Settings
  geometry      : Geometry
  sectors       : List Sector
  zones         : List (Option Zone)
  surfaces      : List (Option Surface)
  selection     : Option Nat
  modes         : List WorkMode
  selectedMode  : Nat
  engineMeter   : Nat
  weightedMeter : Nat
  shift         : Shift
  items         : List (Option Item)
  configs       : List ChannelConfig
deriving DecidableEq, Repr

/-- The levels at the pins: SLEW_A, SLEW_B, SLEW_Z (true for high), CS_N low, the service key asserted (SERVICE_KEY_N low),
RESET_N held low, and the voltage on VSUP_SNS as last measured, in 0.1 V. -/
structure Pins where
  slewA       : Bool
  slewB       : Bool
  slewZ       : Bool
  csLow       : Bool
  keyAsserted : Bool
  resetLow    : Bool
  supply      : Nat
deriving DecidableEq, Repr

/-- Whether the part runs: VDD present and RESET_N high; VDD present and RESET_N held low; VDD absent (11 R184, R185). -/
inductive Phase where
  | running | held | unpowered
deriving DecidableEq, Repr

end Sys2Proof.Machine
end

