-- ==== Sys2Proof/Machine/Defaults.lean ====
section
/-! DEFINITION. The defaults that the retained contents take when they are found lost (11 R184) and the volatile contents
with which every reset starts, as far as they do not depend on the retained contents. -/

namespace Sys2Proof.Machine

/-- The slots SIGNED of Source roles: HYD_OIL_TEMP alone (01 R2). -/
def sourceSigned (slot : Nat) : Bool := slot == 6

/-- A source record with default fields and the given plausible range (01 R2). -/
def sourceDefault (lo hi : Int) : SourceRecord :=
  { identifier := none, offset := 0, order := .lowFirst, lo, hi, timeout := 200 }

/-- The default records of the eight slots (01 R2, Source roles). -/
def defaultSources : List SourceRecord :=
  [sourceDefault 0 65535, sourceDefault 0 65535, sourceDefault 0 65535, sourceDefault 0 600, sourceDefault 0 4000,
   sourceDefault 0 20000, sourceDefault (-40) 150, sourceDefault 0 600]

/-- The default of every setting (01 R12, 02 R18, 04 R53, 05 R72, 06 R90, 07 R109, 09 R157 and R158, 10 R169). -/
def defaultSettings : Settings :=
  { canBitRate := 250, demandId := none, demandEnable := false,
    cpr := 36000, indexPos := 0, slipTol := 50, minSwing := 1365, still := 45,
    zoneLimiting := true, sectorMap := false, defaultClass := .free, holdClass := .slow, noAngleClass := .slow,
    editTimeout := 10, decel := 2000, margin := 182, onGradeBand := 30, floorBand := 500,
    idleSpeed := 900, runThreshold := 400, autoIdleDelay := 4, shutdownDelay := 0, pilotThreshold := 50,
    idleTorque := 60, oilStart := 95, oilTorque := 70, ratedPump := 320,
    lampStretch := 1, statusA := .none, statusALow := false, statusB := .none, statusBLow := false,
    supplyDown := 180, supplyUp := 190 }

/-- The Geometry record when UNSET by default (03 R33). -/
def defaultGeometry : Geometry := { dims := none, dig := 0, dump := 3000 }

/-- A sector retired or lost (04 R51). -/
def defaultSector : Sector := { cls := .free, firm := false }

/-- The default figures of the four work modes (07 R106). -/
def defaultModes : List WorkMode := [⟨1400, 60⟩, ⟨1650, 80⟩, ⟨1800, 100⟩, ⟨1900, 100⟩]

/-- The default selected mode, ECONOMY (07 R106). -/
def defaultMode : Nat := 1

/-- A Shift Summary of zeros (07 R124). -/
def zeroShift : Shift := ⟨0, 0, 0, 0, 0⟩

/-- The default configurations of the four channels (10 R160). -/
def defaultConfigs : List ChannelConfig :=
  [⟨1000, 200, some 600, 50, 50, 50, 100, false⟩, ⟨1000, 200, some 600, 50, 50, 50, 100, false⟩,
   ⟨1000, 200, none, 100, 100, 50, 100, false⟩, ⟨1000, 200, none, 20, 20, 50, 100, false⟩]

/-- The contents with which every owner starts when the Retained Memory is found LOST (11 R184). -/
def defaultRetained : Retained :=
  { sources := defaultSources, settings := defaultSettings, geometry := defaultGeometry,
    sectors := List.replicate 32 defaultSector, zones := List.replicate 12 none, surfaces := List.replicate 8 none,
    selection := none, modes := defaultModes, selectedMode := defaultMode,
    engineMeter := 0, weightedMeter := 0, shift := zeroShift,
    items := List.replicate 24 none, configs := defaultConfigs }

/-- A slot without identifier (01 R2). -/
def disabledSlot : SourceSlot := { state := .disabled, lastGood := none, lastTime := none, timer := none }

/-- The starting Pose record (03 R50). -/
def startPose : Pose :=
  { seq := 0, quality := .invalid, phi := none, omega := 0, r := none, z := none, x := none, y := none }

/-- The Slew Counter after every reset (02 R32). -/
def startSc : Sc :=
  { count := 0, referenced := false, travel := 0, gateAcc := 0, omega := 0, runDir := .none, runCount := 0,
    gate := some Config.gateTime }

/-- The Zone Table after every reset (04 R69). -/
def startZt : Zt := { isOpen := false, edit := none, engaged := List.replicate 12 false }

/-- The floor record after every reset (06 R104). -/
def startFloor : FloorRecord :=
  { state := .none, held := none, index := none, dF := none, band := none, target := 0 }

/-- A lamp after every reset (09 R159). -/
def startLamp : LampState := { mode := .off, lit := false, flash := none, stretch := none }

/-- A notice after every reset (09 R159). -/
def clearNotice : Notice := { state := .clear, cond := false }

/-- The Notice Unit after every reset, before the blocks report (09 R159). -/
def startNu : Nu :=
  { notices := List.replicate 110 clearNotice, list := [], changed := true, red := startLamp, amber := startLamp }

/-- A channel after every reset, with the target its owner hands over (10 R174). -/
def startChannel (owner : Nat) : Channel :=
  { owner, commanded := 0, measured := 0, sensed := [], fault := none, openQual := 0, reachQual := 0,
    ramp := some Config.rampInterval, ditherSince := none }

/-- The Controller Link after every reset (11 R185). -/
def startLink : Link :=
  { state := .idle, overlap := false, request := none, answer := none, response := none, transaction := none }

end Sys2Proof.Machine
end

