-- ==== Sys2Proof/Machine/State.lean ====
section
/-! DEFINITION. The state of the part, why a step may stop, and the machine right after reset. -/

namespace Sys2Proof.Machine

/-- The whole state. `pending` is the queue of commands, front first (log entry 1). `lossUnreported` says that the latest
power-on found the contents LOST while RESET_N was low, so that RETAINED_LOST waits for the release (log entry 38). `now`,
`inbox` and `choice` are the model's own (log entries 2, 6 and 7): the time base in milliseconds, the reports on their way to
the Notice Unit inside one step, and the free value that picks the orders the spec leaves open. -/
structure State where
  pending        : List Instr
  phase          : Phase
  now            : Nat
  backupDropped  : Bool
  lossUnreported : Bool
  pins           : Pins
  ret            : Retained
  mbp            : Mbp
  sc             : Sc
  pu             : Pu
  zt             : Zt
  slm            : Slm
  gg             : Gg
  ec             : Ec
  nu             : Nu
  vd             : Vd
  link           : Link
  inbox          : List Report
  choice         : Nat
deriving DecidableEq, Repr

/-- Why the part would stop. The spec stops it nowhere (log entry 31), so there is no constructor: no meaning raises a
fault. Safe: nothing is cut short. -/
inductive Fault where
deriving DecidableEq, Repr

/-- Why a command has no meaning. -/
inductive Refusal where
  /-- Raised by an arm of `exec` for a row of the table that has no meaning yet; safe, since nothing is claimed of it. No
  arm raises it now. -/
  | notModelled (mnemonic : String)
deriving DecidableEq, Repr

/-- What a step answers. -/
abbrev Result := Host.Outcome State Fault Refusal

/-- A lamp flashing from the start of a lit phase (09 R156). -/
def State.resetLamp : LampState :=
  { mode := .flashing, lit := true, flash := some Config.flashPhase, stretch := none }

/-- The Notice Set once the starting states have been reported after a power-on that found the contents lost (09 R159):
RETAINED_LOST (0), SUPPLY_LOW (1), SLEW_UNREFERENCED (35), GEOMETRY_UNSET (36) and SLEW_SLOWED (57) are RAISED; the
condition of RETAINED_LOST is absent once reported (R146). -/
def State.resetNotices : List Notice :=
  [⟨.raised, false⟩, ⟨.raised, true⟩] ++ List.replicate 33 clearNotice ++ [⟨.raised, true⟩, ⟨.raised, true⟩] ++
    List.replicate 20 clearNotice ++ [⟨.raised, true⟩] ++ List.replicate 52 clearNotice

/-- The machine right after its first power-on, at which the latch is set and the contents are found lost (11 R184; log
entry 5): every retained field at its default, every block at its starting state (R11, R17, R32, R50, R69, R87, R104,
R126, R144, R159, R174, R185). -/
def State.reset : State :=
  { pending := [], phase := .running, now := 0, backupDropped := false, lossUnreported := false,
    pins := { slewA := false, slewB := false, slewZ := false, csLow := false, keyAsserted := false, resetLow := false, supply := 0 },
    ret := defaultRetained,
    mbp := { slots := List.replicate 8 disabledSlot, busOff := false, rolling := 0, unsent := 0, built := false,
             acked := false, deferred := false, waiting := none, period := none, recovery := none },
    sc := startSc,
    pu := { gatePhi := 0, gateRef := false, gateOmega := 0, links := [.disabled, .disabled, .disabled],
            pose := startPose, detector := .waitDig },
    zt := startZt,
    slm := { held := startPose,
             record := { seq := 0, basis := .noAngle, governing := some .slow, left := .limited, right := .limited,
                         leftLength := none, rightLength := none, leftClass := none, rightClass := none,
                         leftEscape := none, rightEscape := none } },
    gg := { held := startPose, guidance := { seq := 0, target := none, state := .noPose, d := none },
            floor := startFloor, hold := none },
    ec := { copies := List.replicate 5 ⟨.disabled, none⟩, omega := 0, gateStill := 45, active := true, state := .stopped,
            autoIdle := none, shutdown := none, wait := none, oilLatch := false, torque := 60, partialMs := 0, overMs := 0,
            pumpSum := 0, pumpCount := 0, prevFuel := none, fuelRem := 0 },
    nu := { notices := State.resetNotices, list := [35, 57, 36, 1, 0], changed := true,
            red := State.resetLamp, amber := State.resetLamp },
    vd := { chans := [startChannel 600, startChannel 600, startChannel 0, startChannel 667], supplyLow := true,
            downQual := none, upQual := none, test := none, duration := none },
    link := startLink, inbox := [], choice := 0 }

end Sys2Proof.Machine
end

