-- ==== Sys2Proof/Machine/Arith.lean ====
section
/-! DEFINITION. The arithmetic the rules share (00, Conventions): Rnd, clamping, angle words, arcs, the class order, and the
sine table (03 R38). -/

namespace Sys2Proof.Machine

/-- Rnd(n / d): the nearest integer, halves away from zero (00, Rounding). -/
def rndDiv (n : Int) (d : Nat) : Int :=
  if 0 ≤ n then (((2 * n.toNat + d) / (2 * d) : Nat) : Int) else -(((2 * (-n).toNat + d) / (2 * d) : Nat) : Int)

/-- To clamp a value to lo..hi (00, Clamping). -/
def clampInt (lo hi v : Int) : Int := if v < lo then lo else if hi < v then hi else v

/-- To clamp a written value to a range of numbers from 0 up. -/
def clampNat (lo hi : Nat) (v : Int) : Nat := (clampInt lo hi v).toNat

/-- Angle words per turn (00, Angle words). -/
def turn : Nat := 16384

/-- The arc (start, width) contains the angle word q (00, Arcs). -/
def arcContains (start width q : Nat) : Bool := decide ((q + (turn - start % turn)) % turn < width)

/-- The place of a class in the class order (00, Class order). -/
def Cls.rank : Cls → Nat
  | .free => 0
  | .warn => 1
  | .slow => 2
  | .stop => 3

/-- The more restrictive of two classes. -/
def Cls.worse (a b : Cls) : Cls := if a.rank < b.rank then b else a

/-- The most restrictive class of a list, FREE for the empty one. -/
def mostRestrictive (cs : List Cls) : Cls := cs.foldl Cls.worse .free

/-! ### The sine table -/

/-- The scale of the fixed-point figures below. -/
def sineScale : Nat := 10 ^ 40

/-- π in that scale, rounded to the nearest. -/
def piScaled : Nat := 31415926535897932384626433832795028841972

/-- The sum of n further terms of the sine series, t being the last term's size, x the argument and k the number of the next
term; the terms alternate in sign. -/
def sineTerms (x : Nat) : Nat → Nat → Nat → Int
  | 0, _, _ => 0
  | n + 1, k, t =>
    let t' := t * x / sineScale * x / sineScale / (2 * k * (2 * k + 1))
    (if k % 2 = 1 then -(t' : Int) else (t' : Int)) + sineTerms x n (k + 1) t'

/-- T(a) for a in 0..4096, from sixteen terms of the series of the sine at 2π a / 16384. The figures are exact to far less
than the distance of any entry from a half, which is more than 0.0001 (log entry 24). -/
def sineQuarter (a : Nat) : Int :=
  let x := piScaled * a / 8192
  rndDiv (32767 * ((x : Int) + sineTerms x 16 1 x)) sineScale

/-- T(a) for an angle word a, by the exact symmetries of the sine (03 R38). -/
def sineTable (a : Nat) : Int :=
  if a ≤ 4096 then sineQuarter a
  else if a ≤ 8192 then sineQuarter (8192 - a)
  else if a ≤ 12288 then -sineQuarter (a - 8192)
  else -sineQuarter (16384 - a)

/-- S(a) (03 R38). -/
def sinA (a : Nat) : Int := sineTable (a % turn)

/-- C(a) (03 R38). -/
def cosA (a : Nat) : Int := sineTable ((a + 4096) % turn)

end Sys2Proof.Machine
end

