-- ==== Sys2Proof/Machine/Wire.lean ====
section
/-! DEFINITION. How values stand in the bytes of the Controller Link (11 R182): most significant byte first, two's
complement, absent marks, and the code of each enumerated value. -/

namespace Sys2Proof.Machine

/-- The number a byte string holds, most significant byte first (R182). -/
def beNat (bytes : List Byte) : Nat := bytes.foldl (fun n b => n * 256 + b.toNat) 0

/-- The two's complement value of a byte string (R182). -/
def beInt (bytes : List Byte) : Int :=
  let n := beNat bytes
  if 2 * n < 256 ^ bytes.length then n else (n : Int) - 256 ^ bytes.length

/-- n bytes holding v, most significant byte first (R182). -/
def toBe : Nat → Nat → List Byte
  | 0, _ => []
  | n + 1, v => BitVec.ofNat 8 (v / 256 ^ n) :: toBe n v

/-- n bytes holding v in two's complement (R182). -/
def toBeInt (n : Nat) (v : Int) : List Byte := toBe n (v % 256 ^ n).toNat

/-- The absent mark of an unsigned field of n bytes: all ones (R182). -/
def absentMark (n : Nat) : Nat := 256 ^ n - 1

/-- The absent mark of a signed field of n bytes: the most negative value (R182). -/
def absentMarkInt (n : Nat) : Int := -(2 ^ (8 * n - 1))

/-- An unsigned field that may be absent. -/
def optBe (n : Nat) (v : Option Nat) : List Byte := toBe n (v.getD (absentMark n))

/-- A signed field that may be absent. -/
def optBeInt (n : Nat) (v : Option Int) : List Byte := toBeInt n (v.getD (absentMarkInt n))

/-- The field of n bytes at an offset of a payload. -/
def field (payload : List Byte) (offset n : Nat) : List Byte := (payload.drop offset).take n

/-- An unsigned field of a payload. -/
def fieldNat (payload : List Byte) (offset n : Nat) : Nat := beNat (field payload offset n)

/-- A signed field of a payload. -/
def fieldInt (payload : List Byte) (offset n : Nat) : Int := beInt (field payload offset n)

/-- An unsigned field that may carry its absent mark. -/
def fieldOpt (payload : List Byte) (offset n : Nat) : Option Nat :=
  let v := fieldNat payload offset n
  if v = absentMark n then none else some v

/-- A signed field that may carry its absent mark. -/
def fieldOptInt (payload : List Byte) (offset n : Nat) : Option Int :=
  let v := fieldInt payload offset n
  if v = absentMarkInt n then none else some v

/-- A yes/no field (R182). -/
def yesNo (b : Bool) : Nat := if b then 1 else 0

/-! ### Codes of enumerated values (R182) -/

/-- R2. -/
def SourceState.code : SourceState → Nat
  | .disabled => 0
  | .never => 1
  | .fresh => 2
  | .stale => 3
  | .implausible => 4

/-- R2. -/
def ByteOrder.code : ByteOrder → Nat
  | .lowFirst => 0
  | .highFirst => 1

/-- R2. -/
def byteOrderOf : Nat → Option ByteOrder
  | 0 => some .lowFirst
  | 1 => some .highFirst
  | _ => none

/-- R43. -/
def Quality.code : Quality → Nat
  | .complete => 0
  | .noSlew => 1
  | .invalid => 2

/-- FREE 0, WARN 1, SLOW 2, STOP 3 (R182). -/
def Cls.code (c : Cls) : Nat := c.rank

/-- R182. -/
def clsOf : Nat → Option Cls
  | 0 => some .free
  | 1 => some .warn
  | 2 => some .slow
  | 3 => some .stop
  | _ => none

/-- R52. -/
def ZoneCondition.code : ZoneCondition → Nat
  | .always => 0
  | .tipAbove => 1
  | .tipBelow => 2
  | .reachBeyond => 3

/-- R52. -/
def zoneConditionOf : Nat → Option ZoneCondition
  | 0 => some .always
  | 1 => some .tipAbove
  | 2 => some .tipBelow
  | 3 => some .reachBeyond
  | _ => none

/-- EMPTY 0, ACTIVE 1, DORMANT 2 (R52, R88). -/
def entryState (active : Option Bool) : Nat :=
  match active with
  | none => 0
  | some true => 1
  | some false => 2

/-- R74. -/
def Basis.code : Basis → Nat
  | .zonesOff => 0
  | .noAngle => 1
  | .editHold => 2
  | .lookAhead => 3
  | .escape => 4

/-- R74. -/
def DirState.code : DirState → Nat
  | .opened => 0
  | .limited => 1
  | .blocked => 2

/-- R88. -/
def SurfaceKind.code : SurfaceKind → Nat
  | .grade => 0
  | .floor => 1

/-- R88. -/
def surfaceKindOf : Nat → Option SurfaceKind
  | 0 => some .grade
  | 1 => some .floor
  | _ => none

/-- R97. -/
def GuidanceState.code : GuidanceState → Nat
  | .noTarget => 0
  | .noPose => 1
  | .outside => 2
  | .above => 3
  | .onGrade => 4
  | .below => 5

/-- R98, field table. -/
def FloorState.code : FloorState → Nat
  | .none => 0
  | .clear => 1
  | .near => 2
  | .atFloor => 3
  | .holding => 4
  | .unavailable => 5

/-- R112, R116. -/
def EconomyState.code : EconomyState → Nat
  | .stopped => 0
  | .working => 1
  | .settling => 2
  | .idling => 3
  | .shutdownRequested => 4

/-- R128: EMPTY is 0. -/
def ItemState.code : ItemState → Nat
  | .counting => 1
  | .due => 2
  | .overdue => 3
  | .critical => 4

/-- R128. -/
def ServiceBasis.code : ServiceBasis → Nat
  | .engineHours => 0
  | .weightedHours => 1
  | .slewReversals => 2
  | .digCycles => 3

/-- R128. -/
def serviceBasisOf : Nat → Option ServiceBasis
  | 0 => some .engineHours
  | 1 => some .weightedHours
  | 2 => some .slewReversals
  | 3 => some .digCycles
  | _ => none

/-- R145. -/
def NoticeState.code : NoticeState → Nat
  | .clear => 0
  | .raised => 1
  | .acked => 2

/-- R158. -/
def StatusFunction.code : StatusFunction → Nat
  | .none => 0
  | .slewBlocked => 1
  | .slewRestricted => 2
  | .floorReached => 3
  | .onGrade => 4
  | .autoIdle => 5
  | .shutdownRequested => 6
  | .anyRed => 7
  | .anyService => 8
  | .valveFaultAny => 9

/-- R158; a code above 9 does not occur, since a written value is clamped first. -/
def statusFunctionOf : Nat → StatusFunction
  | 0 => .none
  | 1 => .slewBlocked
  | 2 => .slewRestricted
  | 3 => .floorReached
  | 4 => .onGrade
  | 5 => .autoIdle
  | 6 => .shutdownRequested
  | 7 => .anyRed
  | 8 => .anyService
  | _ => .valveFaultAny

/-- R166, in the order of its table. -/
def FaultKind.code : FaultKind → Nat
  | .overCurrent => 0
  | .openLoad => 1
  | .notReached => 2

/-- R165, in the order of its text (log entry 14). -/
def ChannelState.code : ChannelState → Nat
  | .active => 0
  | .off => 1
  | .faulted => 2

/-- Table 11-1. -/
def ResultCode.code : ResultCode → Nat
  | .ok => 0
  | .okClamped => 1
  | .badFrame => 2
  | .badRequest => 3
  | .badTable => 4
  | .badIndex => 5
  | .badValue => 6
  | .empty => 7
  | .full => 8
  | .notOpen => 9
  | .locked => 10
  | .state => 11

/-- The result of a request that was done, with or without a clamp. -/
def okOr (clamped : Bool) : ResultCode := if clamped then .okClamped else .ok

end Sys2Proof.Machine
end

