-- ==== Sys2Proof/Machine/NoticeSet.lean ====
section
/-! DEFINITION. The Notice Unit's own rules (chapter 9): the catalogue, the transitions of a notice, the Notice List, the
change flag and the lamps. What happens when a report reaches the Notice Unit is said once, by `Nu.take`. -/

namespace Sys2Proof.Machine

/-! ### Catalogue (Table 9-1) -/

/-- The number of notice identities. -/
def noticeCount : Nat := 110

def noticeRetainedLost : Nat := 0
def noticeSupplyLow : Nat := 1
def noticeValveFault (ch : Nat) : Nat := 2 + ch
def noticeSlewSlip : Nat := 6
def noticeIndexMissing : Nat := 7
def noticeServiceCritical (i : Nat) : Nat := 8 + i
def noticeSlewBlocked : Nat := 32
def noticeFloorReached : Nat := 33
def noticeFloorUnavailable : Nat := 34
def noticeSlewUnreferenced : Nat := 35
def noticeGeometryUnset : Nat := 36
def noticeSourceLost (slot : Nat) : Nat := 37 + slot
def noticeSourceImplausible (slot : Nat) : Nat := 45 + slot
def noticeDemandUnsent : Nat := 53
def noticeZoneEditTimeout : Nat := 54
def noticeShutdownPending : Nat := 55
def noticeOilHotDerate : Nat := 56
def noticeSlewSlowed : Nat := 57
def noticeServiceOverdue (i : Nat) : Nat := 58 + i
def noticeZoneWarn : Nat := 82
def noticeFloorNear : Nat := 83
def noticeZoneEditOpen : Nat := 84
def noticeAutoIdle : Nat := 85
def noticeServiceDue (i : Nat) : Nat := 86 + i

/-- The severity of a catalogue number (Table 9-1: catalogue order is severity order). -/
def noticeSeverity (n : Nat) : Severity := if n < 32 then .red else if n < 82 then .amber else .info

/-- The HOLD notices of Table 9-1; every other notice is a FOLLOW notice. -/
def noticeHolds (n : Nat) : Bool :=
  n == 0 || (decide (2 ≤ n) && decide (n ≤ 31)) || (decide (45 ≤ n) && decide (n ≤ 52)) || n == 54

/-! ### Transitions -/

/-- A condition report reaches a notice (R147, R148). -/
def Notice.onCondition (holds present : Bool) (x : Notice) : Notice :=
  if holds then
    { state := if x.state = .acked ∧ present = false then .clear else x.state, cond := present }
  else
    { state := if present then (if x.state = .clear then .raised else x.state) else .clear, cond := present }

/-- A cause reaches a HOLD notice (R148): it is RAISED, and the held condition is what the cause carries. -/
def Notice.onCause (present : Bool) : Notice := { state := .raised, cond := present }

/-- A RAISED notice is acknowledged (R147, R148). Any other is left as it is. -/
def Notice.onAck (holds : Bool) (x : Notice) : Notice :=
  if x.state = .raised then
    { x with state := if holds && !x.cond then .clear else .acked }
  else x

/-- The record of a catalogue number. -/
def noticeAt (ns : List Notice) (n : Nat) : Notice := ns.getD n clearNotice

/-- Whether a catalogue number is RAISED. -/
def isRaised (ns : List Notice) (n : Nat) : Bool := (noticeAt ns n).state == .raised

/-- Whether a catalogue number is ACKED. -/
def isAcked (ns : List Notice) (n : Nat) : Bool := (noticeAt ns n).state == .acked

/-- The RAISED catalogue numbers, ascending. -/
def raisedNumbers (ns : List Notice) : List Nat := (List.range noticeCount).filter (isRaised ns)

/-- The ACKED catalogue numbers, ascending. -/
def ackedNumbers (ns : List Notice) : List Nat := (List.range noticeCount).filter (isAcked ns)

/-- The Notice Set once a report has been taken (R147 to R149). -/
def applyReport (r : Report) (ns : List Notice) : List Notice :=
  match r with
  | .condition n present => ns.set n ((noticeAt ns n).onCondition (noticeHolds n) present)
  | .cause n present => ns.set n (Notice.onCause present)
  | .retirement i =>
    ((ns.set (noticeServiceCritical i) clearNotice).set (noticeServiceOverdue i) clearNotice).set (noticeServiceDue i)
      clearNotice

/-! ### List, change flag, lamps -/

/-- The Notice List once the Notice Set has changed (R150, R151): every entry that left RAISED is removed, the rest keep
their order, and RAISED notices that are not listed join at the tail in ascending number while there is a place. A
notice that has just become RAISED finds a place only where no other was waiting. -/
def relist (ns : List Notice) (list : List Nat) : List Nat :=
  let kept := list.filter (isRaised ns)
  kept ++ ((raisedNumbers ns).filter (fun n => !kept.contains n)).take (Config.listPlaces - kept.length)

/-- Whether any notice of a severity is RAISED. -/
def anyRaised (ns : List Notice) (v : Severity) : Bool := (raisedNumbers ns).any (fun n => noticeSeverity n == v)

/-- Whether any notice of a severity is ACKED. -/
def anyAcked (ns : List Notice) (v : Severity) : Bool := (ackedNumbers ns).any (fun n => noticeSeverity n == v)

/-- A lamp once the notices of its severity have changed (R156): whether any is RAISED, whether any is ACKED, and the
stretch time in force. -/
def LampState.next (raised acked : Bool) (stretchMs : Nat) (l : LampState) : LampState :=
  if raised then
    match l.mode with
    | .flashing => l
    | _ => { mode := .flashing, lit := true, flash := some Config.flashPhase, stretch := none }
  else if acked then { mode := .steady, lit := true, flash := none, stretch := none }
  else
    match l.mode with
    | .stretch => l
    | .off => l
    | _ =>
      if stretchMs = 0 then { mode := .off, lit := false, flash := none, stretch := none }
      else { mode := .stretch, lit := true, flash := none, stretch := some stretchMs }

/-- The Notice Unit once one event has made `ns` of its Notice Set (R150 to R152, R156). The change flag is set where a
notice state or the list changed. -/
def Nu.settle (stretchMs : Nat) (nu : Nu) (ns : List Notice) : Nu :=
  { notices := ns
    list := relist ns nu.list
    changed := nu.changed || decide (ns.map (·.state) ≠ nu.notices.map (·.state)) || decide (relist ns nu.list ≠ nu.list)
    red := nu.red.next (anyRaised ns .red) (anyAcked ns .red) stretchMs
    amber := nu.amber.next (anyRaised ns .amber) (anyAcked ns .amber) stretchMs }

/-- One report is taken, whole (R146). -/
def Nu.take (stretchMs : Nat) (r : Report) (nu : Nu) : Nu := nu.settle stretchMs (applyReport r nu.notices)

/-- One notice is acknowledged (R153). -/
def Nu.ackOne (stretchMs n : Nat) (nu : Nu) : Nu :=
  nu.settle stretchMs (nu.notices.set n ((noticeAt nu.notices n).onAck (noticeHolds n)))

/-- Every RAISED notice is acknowledged as one event (R153). -/
def Nu.ackEvery (stretchMs : Nat) (nu : Nu) : Nu :=
  nu.settle stretchMs (nu.notices.mapIdx (fun n x => x.onAck (noticeHolds n)))

/-! ### The order of reports -/

/-- Whether a report concerns a catalogue number. -/
def Report.touches (r : Report) (n : Nat) : Bool :=
  match r with
  | .condition k _ => k == n
  | .cause k _ => k == n
  | .retirement i => n == noticeServiceCritical i || n == noticeServiceOverdue i || n == noticeServiceDue i

/-- Whether two reports concern a common identity, so that they are taken in the order in which they were made. -/
def Report.conflicts (a b : Report) : Bool :=
  match a with
  | .condition n _ => b.touches n
  | .cause n _ => b.touches n
  | .retirement i =>
    b.touches (noticeServiceCritical i) || b.touches (noticeServiceOverdue i) || b.touches (noticeServiceDue i)

/-- From the report at a place, the place of the report that must be taken first: back through earlier reports of a common
identity until there is none. -/
def firstDue : Nat → List Report → Nat → Nat
  | 0, _, i => i
  | n + 1, l, i =>
    match l[i]? with
    | none => i
    | some r => let j := l.findIdx (fun x => x.conflicts r); if j < i then firstDue n l j else i

/-- Reports reach the Notice Unit one by one. Reports of different identities reach it in no fixed order (R146): the free
value `choice` picks the next one at each turn (log entry 6), and two reports of one identity keep their order. Answers
the Notice Unit and the part of the free value not yet used. -/
def Nu.drain (stretchMs : Nat) : Nat → Nat → List Report → Nu → Nu × Nat
  | 0, choice, _, nu => (nu, choice)
  | n + 1, choice, inbox, nu =>
    match inbox with
    | [] => (nu, choice)
    | r :: rest =>
      let i := firstDue inbox.length inbox (choice % inbox.length)
      Nu.drain stretchMs n (choice / inbox.length) (inbox.eraseIdx i) (nu.take stretchMs ((r :: rest).getD i r))

/-! ### Time -/

/-- A running timer after a time; a stopped one stays stopped. -/
def Timer.elapse (t : Timer) (dt : Nat) : Timer := t.map (· - dt)

/-- A lamp's timers after a time. -/
def LampState.elapse (l : LampState) (dt : Nat) : LampState :=
  { l with flash := l.flash.elapse dt, stretch := l.stretch.elapse dt }

end Sys2Proof.Machine
end

