-- ==== Sys2Proof/Machine/Ops.lean ====
section
/-! DEFINITION. The named operations on the state that every family uses: reading and writing a record of a table, reports,
the passing of time, and how a command's effect becomes a step. -/

namespace Sys2Proof.Machine

/-! ### Records -/

/-- The volatile part of a source slot. -/
def State.slot (s : State) (i : Nat) : SourceSlot := s.mbp.slots.getD i disabledSlot

/-- The retained record of a source slot. -/
def State.source (s : State) (i : Nat) : SourceRecord := s.ret.sources.getD i (sourceDefault 0 0)

def State.setSlot (s : State) (i : Nat) (x : SourceSlot) : State :=
  { s with mbp := { s.mbp with slots := s.mbp.slots.set i x } }

def State.setSource (s : State) (i : Nat) (x : SourceRecord) : State :=
  { s with ret := { s.ret with sources := s.ret.sources.set i x } }

/-- A channel's configuration, in any retained contents. -/
def Retained.config (r : Retained) (ch : Nat) : ChannelConfig := r.configs.getD ch ⟨0, 0, none, 0, 0, 0, 0, false⟩

/-- The volatile part of a channel. -/
def Vd.chan (v : Vd) (ch : Nat) : Channel := v.chans.getD ch (startChannel 0)

def Vd.setChan (v : Vd) (ch : Nat) (c : Channel) : Vd := { v with chans := v.chans.set ch c }

/-- An owner hands its channel a target (10 R162): the owner's target is replaced, and nothing else. -/
def Vd.hand (v : Vd) (ch target : Nat) : Vd := v.setChan ch { v.chan ch with owner := target }

/-- The SETTINGS table is written. -/
def State.setSettings (s : State) (x : Settings) : State := { s with ret := { s.ret with settings := x } }

/-! ### Reports and answers -/

/-- Blocks report to the Notice Unit; the reports are delivered at the end of the step. -/
def State.report (s : State) (rs : List Report) : State := { s with inbox := s.inbox ++ rs }

/-- The reports of a step are taken by the Notice Unit (09 R146), after every owner of the step has acted: a lamp stretch that
CLEAR_RETAINED's own reports start takes the lamp stretch time's default, 1 s (09 R157, 11 R186). DESIGN CHOICE: R186 gives no
order between the owners and their reports (log entry 8). -/
def State.deliver (s : State) : State :=
  { s with
    nu := (s.nu.drain (s.ret.settings.lampStretch * 1000) s.inbox.length s.choice s.inbox).1
    choice := (s.nu.drain (s.ret.settings.lampStretch * 1000) s.inbox.length s.choice s.inbox).2
    inbox := [] }

/-- An owner has acted on the request it was handed, with its result and payload (11 R178; log entry 11). -/
def State.answer (s : State) (code : Nat) (result : ResultCode) (payload : List Byte) : State :=
  { s with link := { s.link with answer := some (.done code result payload) } }

/-- A read waits for its response, which returns the state as it stands when it is prepared (11 R178; log entry 11). -/
def State.ask (s : State) (request : ReadRequest) : State :=
  { s with link := { s.link with answer := some (.read request) } }

/-! ### Free order -/

/-- A list in the order the free value picks (log entry 7), and the part of the free value not yet used. -/
def shuffle {α : Type} : Nat → Nat → List α → List α × Nat
  | 0, choice, l => (l, choice)
  | n + 1, choice, l =>
    match l[choice % l.length]? with
    | none => (l, choice)
    | some x =>
      let (rest, left) := shuffle n (choice / l.length) (l.eraseIdx (choice % l.length))
      (x :: rest, left)

/-! ### Time (log entries 2 and 3) -/

/-- The engine as ENGINE_SPEED shows it against the running threshold (07 R110). -/
def engineOutcome (threshold : Nat) (ec : Ec) : EngineOutcome :=
  match ec.copies.getD 1 ⟨.disabled, none⟩ with
  | ⟨.fresh, some v⟩ => if (threshold : Int) ≤ v then .running else .stopped
  | _ => .unknown

/-- Metering runs while the outcome is running (07 R120). -/
def State.metering (s : State) : Bool := engineOutcome s.ret.settings.runThreshold s.ec == .running

/-- The part of a time of metering that the partial quantum takes up: it holds 0..35999, and at the top it waits for
QUANTUM_COMPLETION. The rest is kept beside it (07 R120; log entry 3). -/
def accrued (partialMs dt : Nat) : Nat := min dt (Config.quantum - 1 - partialMs)

def Mbp.elapse (m : Mbp) (dt : Nat) : Mbp :=
  { m with
    slots := m.slots.map (fun x => { x with timer := x.timer.elapse dt })
    period := m.period.elapse dt
    recovery := m.recovery.elapse dt }

def Ec.elapse (e : Ec) (metering : Bool) (dt : Nat) : Ec :=
  { e with
    autoIdle := e.autoIdle.elapse dt
    shutdown := e.shutdown.elapse dt
    wait := e.wait.elapse dt
    partialMs := if metering then e.partialMs + accrued e.partialMs dt else e.partialMs
    overMs := if metering then e.overMs + (dt - accrued e.partialMs dt) else e.overMs }

def Vd.elapse (v : Vd) (dt : Nat) : Vd :=
  { v with
    chans := v.chans.map (fun c => { c with ramp := c.ramp.elapse dt })
    downQual := v.downQual.elapse dt
    upQual := v.upQual.elapse dt
    duration := v.duration.elapse dt }

/-- So many milliseconds pass: every running timer runs down by them, and running time is added to the partial quantum. -/
def State.elapse (s : State) (dt : Nat) : State :=
  { s with
    now := s.now + dt
    mbp := s.mbp.elapse dt
    sc := { s.sc with gate := s.sc.gate.elapse dt }
    zt := { s.zt with edit := s.zt.edit.elapse dt }
    gg := { s.gg with hold := s.gg.hold.elapse dt }
    ec := s.ec.elapse s.metering dt
    nu := { s.nu with red := s.nu.red.elapse dt, amber := s.nu.amber.elapse dt }
    vd := s.vd.elapse dt }

/-! ### Steps -/

/-- What an empty queue brings (log entry 2): a running part's time base counts one millisecond. -/
def State.idle (s : State) : State :=
  match s.phase with
  | .running => s.elapse 1
  | _ => s

/-- A timer's expiry: where the timer runs, the time it has left passes and then the expiry acts; a stopped timer does not
expire, and nothing happens (log entry 2). -/
def State.expire (s : State) (timer : Timer) (effect : State → State) : State :=
  match timer with
  | none => s
  | some left => effect (s.elapse left)

/-- A command's effect becomes a step: the blocks act only while the part runs (log entry 4), and the reports they made
are then taken by the Notice Unit. -/
def State.commit (s : State) (effect : State → State) : Result :=
  .next (match s.phase with
    | .running => (effect s).deliver
    | _ => s)

/-- The same for a command that moves a pin: the pin moves whether or not the part runs. -/
def State.commitPins (s : State) (pins : Pins) (effect : State → State) : Result :=
  .next (match s.phase with
    | .running => (effect { s with pins := pins }).deliver
    | _ => { s with pins := pins })

end Sys2Proof.Machine
end

