-- ==== Sys2Proof/Machine/Channels.lean ====
section
/-! DEFINITION. The Valve Drive's own arithmetic (chapter 10): targets, ramp, faults, supply, drive test, dither. -/

namespace Sys2Proof.Machine

/-- The test target of a channel, present while a drive test of it runs (R162, R171). -/
def Vd.testTarget (v : Vd) (ch : Nat) : Option Nat :=
  match v.test with
  | some t => if t.channel = ch then some t.current else none
  | none => none

/-- The target in force (R162). -/
def Vd.targetInForce (v : Vd) (ch : Nat) : Nat := (v.testTarget ch).getD (v.chan ch).owner

/-- The effective target formed from a target in force (R162). -/
def effectiveOf (start target : Nat) : Nat := if target = 0 then 0 else if target < start then start else target

/-- The effective target of a channel (R162). -/
def effectiveTarget (ret : Retained) (v : Vd) (ch : Nat) : Nat :=
  effectiveOf (ret.config ch).start (v.targetInForce ch)

/-- The state of a channel (R165). -/
def Channel.state (c : Channel) : ChannelState :=
  if c.fault.isSome then .faulted else if 0 < c.commanded then .active else .off

/-- The commanded current after a ramp expiry of a channel that is not FAULTED under a NORMAL supply (R163): c the
commanded current, e the effective target. -/
def rampNext (cfg : ChannelConfig) (c e : Nat) : Nat :=
  if c = e then c
  else if c = 0 then (if cfg.start = 0 then min cfg.rampUp e else min cfg.start e)
  else if c < e then min (c + cfg.rampUp) e
  else if 0 < e then max (c - cfg.rampDown) e
  else if c < cfg.start + cfg.rampDown then 0 else c - cfg.rampDown

/-- The condition of OPEN_LOAD (R166): a commanded current above 0 and at least the start current, and a measured average
below 25 % of it. -/
def openLoadFound (cfg : ChannelConfig) (commanded measured : Nat) : Bool :=
  decide (0 < commanded) && decide (cfg.start ≤ commanded) && decide (4 * measured < commanded)

/-- The condition of NOT_REACHED (R166): a commanded current above 0 that equals the effective target, and a measured average
that differs from it by more than the greater of 20 % of it and 50 mA. -/
def notReachedFound (commanded effective measured : Nat) : Bool :=
  let gap := (measured - commanded) + (commanded - measured)
  decide (0 < commanded) && decide (commanded = effective) && decide (commanded < 5 * gap) && decide (50 < gap)

/-- The number of expiries over which a condition has stood, counted on at one more expiry (R166): not found gives 0, and a
change of the commanded current starts the count over. -/
def qualify (found changed : Bool) (n : Nat) : Nat := if found then (if changed then 1 else n + 1) else 0

/-- A channel switched off at once: commanded current 0, both qualifications over, no dither (R167, R168). -/
def Channel.switchOff (c : Channel) : Channel :=
  { c with commanded := 0, openQual := 0, reachQual := 0, ditherSince := none }

/-- A channel with a new commanded current: the dither starts when the current leaves 0 and runs on while it is not 0 (R164). -/
def Channel.command (c : Channel) (now current : Nat) : Channel :=
  { c with
    commanded := current
    ditherSince := if current = 0 then none else if c.commanded = 0 then some now else c.ditherSince }

/-- A running drive test ends: the test target becomes absent and the duration timer is stopped (R172). -/
def Vd.endTest (v : Vd) : Vd := { v with test := none, duration := none }

/-- A fault ends the drive test of its channel (R167, R172). -/
def Vd.endTestOf (v : Vd) (ch : Nat) : Vd :=
  match v.test with
  | some t => if t.channel = ch then v.endTest else v
  | none => v

/-- A fault is taken (R167): FAULTED with its kind, off at once, the drive test of the channel ended. -/
def Vd.takeFault (v : Vd) (ch : Nat) (kind : FaultKind) : Vd :=
  (v.setChan ch { (v.chan ch).switchOff with fault := some kind }).endTestOf ch

/-- A fault is taken and its cause reported with the condition present (R167). -/
def State.takeFault (s : State) (ch : Nat) (kind : FaultKind) : State :=
  { s with vd := s.vd.takeFault ch kind, inbox := s.inbox ++ [.cause (noticeValveFault ch) true] }

/-- The supply qualifications judged against the thresholds in force (R168, R169): one that still meets its threshold runs
on, one that meets it anew is started, any other is stopped. -/
def Vd.judgeSupply (v : Vd) (down up supply : Nat) : Vd :=
  if v.supplyLow then
    { v with
      downQual := none
      upQual := if up ≤ supply then (if v.upQual.isSome then v.upQual else some Config.upTime) else none }
  else
    { v with
      upQual := none
      downQual := if supply < down then (if v.downQual.isSome then v.downQual else some Config.downTime) else none }

/-- A configuration brings a commanded current above 0 into start current..Imax at once, which starts both qualifications
over where it changes the current, and clamps a test target of the channel to the new Imax (R161, R166). -/
def Vd.applyConfig (v : Vd) (ch : Nat) (cfg : ChannelConfig) : Vd :=
  let c := v.chan ch
  let current := if c.commanded = 0 then 0 else max cfg.start (min cfg.imax c.commanded)
  let c' :=
    if current = c.commanded then c
    else { c with commanded := current, openQual := 0, reachQual := 0 }
  { v.setChan ch c' with
    test := v.test.map (fun t => if t.channel = ch then { t with current := min t.current cfg.imax } else t) }

/-- What the output stage drives at a time, in thousandths of a mA (R164): nothing while the commanded current is 0, else
the commanded current plus a triangle of the dither's amplitude that starts at its mid point, rising, any instant below 0
being driven as 0. `p` is the phase in thousandths of a period. DESIGN CHOICE: where the amplitude exceeds the commanded
current, the instants cut at 0 raise the average above the commanded current, and nothing restores it (log entry 19). -/
def outputAt (cfg : ChannelConfig) (c : Channel) (now : Nat) : Nat :=
  match c.ditherSince with
  | none => 0
  | some since =>
    let p : Int := (((now - since) * cfg.ditherFreq) % 1000 : Nat)
    let tri : Int := if p < 250 then 4 * p else if p < 750 then 2000 - 4 * p else 4 * p - 4000
    ((c.commanded : Int) * 1000 + (cfg.ditherAmp : Int) * tri).toNat

end Sys2Proof.Machine
end

