-- ==== Sys2Proof/Machine/Zones.lean ====
section
/-! DEFINITION. The Zone Table's point class and engaged flags (chapter 4). The requests on the table stand in
Machine/ZoneRequests.lean. -/

namespace Sys2Proof.Machine

/-- Whether a zone's condition holds for a pose (R54): a quantity absent from the pose counts as holding. -/
def zoneHolds (z : Zone) (p : Pose) : Bool :=
  match z.condition with
  | .always => true
  | .tipAbove => match p.z, z.limit with
    | some h, some l => decide (l < h)
    | _, _ => true
  | .tipBelow => match p.z, z.limit with
    | some h, some l => decide (h < l)
    | _, _ => true
  | .reachBeyond => match p.r, z.limit with
    | some r, some l => decide (l < r)
    | _, _ => true

/-- The ACTIVE zones whose condition holds for a pose; each applies at every point of its arc (R54). -/
def liveZones (ret : Retained) (p : Pose) : List Zone :=
  ret.zones.filterMap (fun e => match e with
    | some z => if z.active && zoneHolds z p then some z else none
    | none => none)

/-- The sector containing an angle word (R51). -/
def sectorAt (ret : Retained) (q : Nat) : Sector := ret.sectors.getD (q / 512) defaultSector

/-- The point class at q, given the zones that apply for the pose (R55). -/
def pointClassIn (ret : Retained) (live : List Zone) (q : Nat) : Cls :=
  let sec := sectorAt ret q
  if ret.settings.sectorMap && sec.firm then sec.cls
  else
    match live.filter (fun z => arcContains z.start z.width q) with
    | [] => if ret.settings.sectorMap then sec.cls else ret.settings.defaultClass
    | z :: zs => (zs.map (·.cls)).foldl Cls.worse z.cls

/-- The point class at q for a pose (R55). -/
def pointClass (ret : Retained) (p : Pose) (q : Nat) : Cls := pointClassIn ret (liveZones ret p) q

/-- The LEFT look-ahead arc: φ, φ + 1, … , φ + length (05 R79). -/
def leftArc (phi length : Nat) : List Nat := (List.range (length + 1)).map (fun k => (phi + k) % turn)

/-- The RIGHT look-ahead arc: φ, φ − 1, … , φ − length (05 R79). -/
def rightArc (phi length : Nat) : List Nat := (List.range (length + 1)).map (fun k => (phi + (turn - k)) % turn)

/-- Whether an entry is engaged (R68), given the pose, its φ and the lengths of both look-ahead arcs. -/
def zoneEngaged (p : Pose) (phi left right : Nat) (e : Option Zone) : Bool :=
  match e with
  | none => false
  | some z =>
    z.active && zoneHolds z p &&
      ((leftArc phi left).any (arcContains z.start z.width) || (rightArc phi right).any (arcContains z.start z.width))

/-- The engaged flags of all entries for an evaluation (R68): none is engaged where no arcs were formed. -/
def engagedFlags (ret : Retained) (p : Pose) (record : LimitRecord) : List Bool :=
  match p.phi, record.leftLength, record.rightLength with
  | some phi, some left, some right => ret.zones.map (zoneEngaged p phi left right)
  | _, _, _ => ret.zones.map (fun _ => false)

end Sys2Proof.Machine
end

