-- ==== Sys2Proof/Machine/Limiter.lean ====
section
/-! DEFINITION. The Slew Limiter (chapter 5): the limit record of an evaluation, the targets of channels 0 and 1, the three
notices. -/

namespace Sys2Proof.Machine

/-- The direction state a class gives (R75). -/
def dirOf : Cls → DirState
  | .stop => .blocked
  | .slow => .limited
  | .warn => .opened
  | .free => .opened

/-- The stopping arc (R78): s = Rnd(ω² / (2 D)) + M, clamped to 8192. -/
def stoppingArc (decel margin : Nat) (omega : Int) : Nat :=
  min 8192 ((rndDiv (omega * omega) (2 * decel)).toNat + margin)

/-- The LEFT length (R79). -/
def leftLengthOf (st : Settings) (omega : Int) : Nat :=
  if (st.still : Int) < omega then stoppingArc st.decel st.margin omega else st.margin

/-- The RIGHT length (R79). -/
def rightLengthOf (st : Settings) (omega : Int) : Nat :=
  if omega < -(st.still : Int) then stoppingArc st.decel st.margin omega else st.margin

/-- The first number from k on, within the fuel, that is an exit. -/
def firstExit (isExit : Nat → Bool) : Nat → Nat → Option Nat
  | 0, _ => none
  | n + 1, k => if isExit k then some k else firstExit isExit n (k + 1)

/-- The LEFT escape distance (R81): the least k in 1..8192 with the point class at φ + k not STOP. -/
def leftEscapeOf (pc : Nat → Cls) (phi : Nat) : Option Nat :=
  firstExit (fun k => pc ((phi + k) % turn) != .stop) 8192 1

/-- The RIGHT escape distance (R81). -/
def rightEscapeOf (pc : Nat → Cls) (phi : Nat) : Option Nat :=
  firstExit (fun k => pc ((phi + (turn - k)) % turn) != .stop) 8192 1

/-- The direction states inside a STOP region, LEFT and RIGHT, from the two escape distances (R82). -/
def escapeStates (left right : Option Nat) : DirState × DirState :=
  match left, right with
  | some l, some r => if l < r then (.limited, .blocked) else if r < l then (.blocked, .limited) else (.limited, .limited)
  | some _, none => (.limited, .blocked)
  | none, some _ => (.blocked, .limited)
  | none, none => (.blocked, .blocked)

/-- A limit record without look-ahead: both directions take one state (R76, R77). -/
def flatRecord (seq : Nat) (basis : Basis) (governing : Option Cls) (state : DirState) : LimitRecord :=
  { seq, basis, governing, left := state, right := state, leftLength := none, rightLength := none, leftClass := none,
    rightClass := none, leftEscape := none, rightEscape := none }

/-- The arc class of a direction (R80). -/
def arcClass (pc : Nat → Cls) (arc : List Nat) : Cls := mostRestrictive (arc.map pc)

/-- A limit record with look-ahead (R78 to R82), for a pose that carries φ. -/
def aheadRecord (ret : Retained) (p : Pose) (phi : Nat) : LimitRecord :=
  let pc := pointClass ret p
  let ll := leftLengthOf ret.settings p.omega
  let rl := rightLengthOf ret.settings p.omega
  let lc := arcClass pc (leftArc phi ll)
  let rc := arcClass pc (rightArc phi rl)
  if pc (phi % turn) = .stop then
    let le := leftEscapeOf pc phi
    let re := rightEscapeOf pc phi
    { seq := p.seq, basis := .escape, governing := none,
      left := (escapeStates le re).1, right := (escapeStates le re).2,
      leftLength := some ll, rightLength := some rl, leftClass := some lc, rightClass := some rc,
      leftEscape := le, rightEscape := re }
  else
    { seq := p.seq, basis := .lookAhead, governing := none, left := dirOf lc, right := dirOf rc,
      leftLength := some ll, rightLength := some rl, leftClass := some lc, rightClass := some rc,
      leftEscape := none, rightEscape := none }

/-- The limit record that an evaluation of a pose leaves (R76 to R82). -/
def limitRecord (ret : Retained) (isOpen : Bool) (p : Pose) : LimitRecord :=
  if !ret.settings.zoneLimiting then flatRecord p.seq .zonesOff none .opened
  else
    match p.phi with
    | none =>
      let g := if isOpen then ret.settings.noAngleClass.worse ret.settings.holdClass else ret.settings.noAngleClass
      flatRecord p.seq .noAngle (some g) (dirOf g)
    | some phi =>
      if isOpen then flatRecord p.seq .editHold (some ret.settings.holdClass) (dirOf ret.settings.holdClass)
      else aheadRecord ret p phi

/-- The target that a direction state gives a channel (R83). -/
def slewTarget (cfg : ChannelConfig) : DirState → Nat
  | .blocked => cfg.imax
  | .limited => cfg.slow.getD 0
  | .opened => 0

/-- The targets of channels 0 and 1 are handed to the Valve Drive (R83). -/
def handSlewTargets (ret : Retained) (r : LimitRecord) (v : Vd) : Vd :=
  (v.hand 0 (slewTarget (ret.config 0) r.left)).hand 1 (slewTarget (ret.config 1) r.right)

/-- The three notice conditions of a limit record (R85). -/
def limitReports (r : LimitRecord) : List Report :=
  [.condition noticeSlewBlocked (r.left == .blocked || r.right == .blocked),
   .condition noticeSlewSlowed (r.left == .limited || r.right == .limited),
   .condition noticeZoneWarn (r.leftClass == some .warn || r.rightClass == some .warn)]

/-- One evaluation of the held pose (R73): the limit record is replaced, the engaged flags recomputed (04 R68), the targets
handed on (R83) and the conditions reported (R85). -/
def State.evaluateLimits (s : State) : State :=
  { s with
    slm := { s.slm with record := limitRecord s.ret s.zt.isOpen s.slm.held }
    zt := { s.zt with engaged := engagedFlags s.ret s.slm.held (limitRecord s.ret s.zt.isOpen s.slm.held) }
    vd := handSlewTargets s.ret (limitRecord s.ret s.zt.isOpen s.slm.held) s.vd
    inbox := s.inbox ++ limitReports (limitRecord s.ret s.zt.isOpen s.slm.held) }

end Sys2Proof.Machine
end

