-- ==== Sys2Proof/Machine/Grade.lean ====
section
/-! DEFINITION. The Grade Guide (chapter 6): surface heights, the Guidance record, the floor, the channel 2 target. -/

namespace Sys2Proof.Machine

/-- The height of a surface at a plan position (R89). -/
def surfaceHeight (f : Surface) (x y : Int) : Int := f.h0 + rndDiv (f.sx * x + f.sy * y) 1000

/-- The distance of the tip from a surface, z − zs (R89). -/
def surfaceDistance (f : Surface) (x y z : Int) : Int := z - surfaceHeight f x y

/-- The entry at an index of the Surface Table. -/
def Retained.surface (r : Retained) (i : Nat) : Option Surface := r.surfaces.getD i none

/-- The quantities of a COMPLETE pose: φ, x, y, z (03 R43). -/
def Pose.complete (p : Pose) : Option (Nat × Int × Int × Int) :=
  match p.quality, p.phi, p.x, p.y, p.z with
  | .complete, some phi, some x, some y, some z => some (phi, x, y, z)
  | _, _, _, _, _ => none

/-- The guidance state of a distance from the grade (R97). -/
def gradeState (band : Nat) (d : Int) : GuidanceState :=
  if (band : Int) < d then .above else if d < -(band : Int) then .below else .onGrade

/-- The Guidance record of an evaluation (R97). -/
def guidanceOf (ret : Retained) (p : Pose) : Guidance :=
  match ret.selection with
  | none => { seq := p.seq, target := none, state := .noTarget, d := none }
  | some i =>
    match p.complete, ret.surface i with
    | some (phi, x, y, z), some f =>
      if arcContains f.start f.width phi then
        { seq := p.seq, target := some i, state := gradeState ret.settings.onGradeBand (surfaceDistance f x y z),
          d := some (surfaceDistance f x y z) }
      else { seq := p.seq, target := some i, state := .outside, d := none }
    | _, _ => { seq := p.seq, target := some i, state := .noPose, d := none }

/-- Whether any ACTIVE FLOOR surface exists (R99). -/
def floorExists (ret : Retained) : Bool :=
  ret.surfaces.any (fun e => match e with
    | some f => f.active && f.kind == .floor
    | none => false)

/-- The distances from the applicable floors, each with its index, in index order (R98). -/
def floorDistances (ret : Retained) (phi : Nat) (x y z : Int) : List (Nat × Int) :=
  (List.range ret.surfaces.length).filterMap (fun i => match ret.surface i with
    | some f =>
      if f.active && f.kind == .floor && arcContains f.start f.width phi then some (i, surfaceDistance f x y z) else none
    | none => none)

/-- The least distance and the lowest index that gives it (R98). -/
def leastFloor : List (Nat × Int) → Option (Nat × Int)
  | [] => none
  | a :: rest =>
    match leastFloor rest with
    | none => some a
    | some b => if b.2 < a.2 then some b else some a

/-- The proportional target of NEAR (R98). -/
def nearTarget (imax band : Nat) (dF : Int) : Nat := (rndDiv ((imax : Int) * ((band : Int) - dF)) band).toNat

/-- The floor state that a distance gives (R98). -/
def floorStateOf (band : Nat) (dF : Int) : FloorState :=
  if dF ≤ 0 then .atFloor else if dF < band then .near else .clear

/-- The target that a floor state asks for (R98, R101). -/
def floorTarget (imax : Nat) (state : FloorState) (band : Option Nat) (dF : Option Int) : Nat :=
  match state with
  | .atFloor => imax
  | .near => nearTarget imax (band.getD 0) (dF.getD 0)
  | _ => 0

/-- The floor record of an evaluation whose pose is COMPLETE (R98). -/
def floorMeasured (ret : Retained) (phi : Nat) (x y z : Int) : FloorRecord :=
  match leastFloor (floorDistances ret phi x y z) with
  | none => startFloor
  | some (i, dF) =>
    let band := ret.settings.floorBand
    { state := floorStateOf band dF, held := none, index := some i, dF := some dF, band := some band,
      target := floorTarget (ret.config 2).imax (floorStateOf band dF) (some band) (some dF) }

/-- The floor record of an evaluation (R98, R99). -/
def floorNext (ret : Retained) (p : Pose) (old : FloorRecord) : FloorRecord :=
  match p.complete with
  | some (phi, x, y, z) => floorMeasured ret phi x y z
  | none =>
    if !floorExists ret then startFloor
    else
      match old.state with
      | .holding => old
      | .unavailable => old
      | _ => { old with state := .holding, held := some old.state }

/-- The hold timer after an evaluation (R98, R99): a COMPLETE pose or the end of the last floor stops it, entry into HOLDING
starts it. -/
def holdNext (ret : Retained) (p : Pose) (old : FloorRecord) (hold : Timer) : Timer :=
  match p.complete with
  | some _ => none
  | none =>
    if !floorExists ret then none
    else
      match old.state with
      | .holding => hold
      | .unavailable => none
      | _ => some Config.holdTime

/-- The three notice conditions of a floor record (R102). -/
def floorReports (f : FloorRecord) : List Report :=
  [.condition noticeFloorReached (f.state == .atFloor || (f.state == .holding && f.held == some .atFloor)),
   .condition noticeFloorUnavailable (f.state == .unavailable),
   .condition noticeFloorNear (f.state == .near || (f.state == .holding && f.held == some .near))]

/-- A floor record is put in place, its target handed to channel 2 (R101) and its conditions reported (R102). -/
def State.setFloor (s : State) (f : FloorRecord) (hold : Timer) : State :=
  { s with
    gg := { s.gg with floor := f, hold := hold }
    vd := s.vd.hand 2 f.target
    inbox := s.inbox ++ floorReports f }

/-- One evaluation of the held pose (R96). -/
def State.evaluateGrade (s : State) : State :=
  ({ s with gg := { s.gg with guidance := guidanceOf s.ret s.gg.held } }).setFloor
    (floorNext s.ret s.gg.held s.gg.floor) (holdNext s.ret s.gg.held s.gg.floor s.gg.hold)

/-- The floor record with its target worked out from a new configuration of channel 2 (R101). -/
def restatedFloor (ret : Retained) (f : FloorRecord) : FloorRecord :=
  let state := if f.state = .holding then f.held.getD .none else f.state
  { f with target := floorTarget (ret.config 2).imax state f.band f.dF }

end Sys2Proof.Machine
end

