-- ==== Sys2Proof/Machine/Torque.lean ====
section
/-! DEFINITION. The torque limit in force (07 R116 to R119): base torque, the least of the limits, the channel 3 target; and
the oil derate latch. -/

namespace Sys2Proof.Machine

/-- A work mode's figures. -/
def Retained.mode (r : Retained) (i : Nat) : WorkMode := r.modes.getD i ⟨0, 0⟩

/-- Whether a state asks for the selected mode's figures (R116). -/
def EconomyState.usesMode : EconomyState → Bool
  | .working => true
  | .settling => true
  | .stopped => false
  | .idling => false
  | .shutdownRequested => false

/-- The base torque of an economy state (R116). -/
def baseTorque (ret : Retained) (st : EconomyState) : Nat :=
  if st.usesMode then (ret.mode ret.selectedMode).torque else ret.settings.idleTorque

/-- The speed demand of an economy state (R116). -/
def speedDemand (ret : Retained) (st : EconomyState) : Nat :=
  if st.usesMode then (ret.mode ret.selectedMode).speed else ret.settings.idleSpeed

/-- The derates of the CRITICAL items that carry one (R118, 08 R135). -/
def criticalDerates (items : List (Option Item)) : List Nat :=
  items.filterMap (fun e => match e with
    | some it => if it.state = .critical then it.derate else none
    | none => none)

/-- The torque limit in force (R118): the least of the base torque, the oil derate torque while the latch holds, and the
derate of every CRITICAL item that carries one. -/
def torqueLimit (ret : Retained) (st : EconomyState) (oilLatch : Bool) : Nat :=
  (criticalDerates ret.items).foldl min
    (if oilLatch then min (baseTorque ret st) ret.settings.oilTorque else baseTorque ret st)

/-- The channel 3 target of a torque limit (R119): Rnd(Imax3 × (100 − T) / 60). -/
def torqueTarget (imax torque : Nat) : Nat := (rndDiv ((imax : Int) * (100 - (torque : Int))) 60).toNat

/-- T is worked out afresh (R118); where it changes, channel 3 is handed its target (R119). -/
def State.workOutTorque (s : State) : State :=
  { s with
    ec := { s.ec with torque := torqueLimit s.ret s.ec.state s.ec.oilLatch }
    vd :=
      if torqueLimit s.ret s.ec.state s.ec.oilLatch = s.ec.torque then s.vd
      else s.vd.hand 3 (torqueTarget (s.ret.config 3).imax (torqueLimit s.ret s.ec.state s.ec.oilLatch)) }

/-- The latch once HYD_OIL_TEMP is judged against the start (R117). -/
def oilLatchNext (start : Nat) (copy : SourceCopy) (latch : Bool) : Bool :=
  match copy with
  | ⟨.fresh, some v⟩ => if (start : Int) ≤ v then true else if v ≤ (start : Int) - 5 then false else latch
  | _ => latch

/-- The oil derate is judged afresh (R117): its notice follows the latch, and a change of the latch works T out afresh. -/
def State.judgeOil (s : State) : State :=
  let latch := oilLatchNext s.ret.settings.oilStart (s.ec.copies.getD 3 ⟨.disabled, none⟩) s.ec.oilLatch
  if latch = s.ec.oilLatch then s
  else
    (({ s with ec := { s.ec with oilLatch := latch } }).report [.condition noticeOilHotDerate latch]).workOutTorque

end Sys2Proof.Machine
end

