-- ==== Sys2Proof/Machine/Service.lean ====
section
/-! DEFINITION. The Service Schedule (chapter 8): progress, states, events, notices, the derate report. -/

namespace Sys2Proof.Machine

/-- Whether a basis reads a meter. -/
def ServiceBasis.hours : ServiceBasis → Bool
  | .engineHours => true
  | .weightedHours => true
  | .slewReversals => false
  | .digCycles => false

/-- The meter of an hour basis; 0 on a cycle basis, which reads none (R129). -/
def Retained.meterOf (r : Retained) : ServiceBasis → Nat
  | .engineHours => r.engineMeter
  | .weightedHours => r.weightedMeter
  | .slewReversals => 0
  | .digCycles => 0

/-- The progress of an item (R129). -/
def Item.progress (r : Retained) (it : Item) : Nat :=
  if it.basis.hours then r.meterOf it.basis - it.stamp.getD 0 else it.cycles.getD 0

/-- The state that a progress gives (R130). -/
def itemStateOf (interval lead grace progress : Nat) : ItemState :=
  if progress + lead < interval then .counting
  else if progress < interval then .due
  else if progress < interval + grace then .overdue
  else .critical

/-- One evaluation of an item (R131). -/
def Item.evaluated (r : Retained) (it : Item) : Item :=
  { it with state := itemStateOf it.interval it.lead it.grace (it.progress r) }

/-- The state of an entry, absent for an EMPTY one. -/
def stateOf (e : Option Item) : Option ItemState := e.map Item.state

/-- The reports that a move of item i from one state to another makes (R134): for each of the three conditions whose value
changes. -/
def itemReports (i : Nat) (before after : Option ItemState) : List Report :=
  (if (before == some .critical) = (after == some .critical) then []
   else if after = some .critical then [.cause (noticeServiceCritical i) true]
   else [.condition (noticeServiceCritical i) false]) ++
  (if (before == some .overdue) = (after == some .overdue) then []
   else [.condition (noticeServiceOverdue i) (after == some .overdue)]) ++
  (if (before == some .due) = (after == some .due) then []
   else [.condition (noticeServiceDue i) (after == some .due)])

/-- Whether a move calls for a derate report: into CRITICAL or out of it (R135). -/
def criticalMoved (before after : Option ItemState) : Bool :=
  (before == some .critical) != (after == some .critical)

/-- The entry at an index of the Service Item Table. -/
def Retained.item (r : Retained) (i : Nat) : Option Item := r.items.getD i none

/-- The derate report reaches the Economy Controller, which works T out afresh (R135). -/
def State.derateReport (s : State) (due : Bool) : State := if due then s.workOutTorque else s

/-- The reports of every entry of a table, from its states before and after (R134). -/
def tableReports (before after : List (Option Item)) : List Report :=
  (List.range before.length).flatMap (fun i =>
    itemReports i (stateOf (before.getD i none)) (stateOf (after.getD i none)))

/-- Whether any entry moved into CRITICAL or out of it (R135). -/
def tableCriticalMoved (before after : List (Option Item)) : Bool :=
  (List.range before.length).any (fun i =>
    criticalMoved (stateOf (before.getD i none)) (stateOf (after.getD i none)))

/-- The items on some bases are changed by an event and then evaluated (R131 to R133). -/
def State.serviceEvent (s : State) (concerns : ServiceBasis → Bool) (change : Item → Item) : State :=
  let items := s.ret.items.map (fun e => e.map (fun it =>
    if concerns it.basis then (change it).evaluated s.ret else it))
  (({ s with ret := { s.ret with items := items } }).report (tableReports s.ret.items items)).derateReport
    (tableCriticalMoved s.ret.items items)

/-- The top of a cycles field (R128). -/
def cyclesTop : Nat := 4294967295

/-- One cycle is added to an item's count, which stays at its top (R133). -/
def Item.addCycle (it : Item) : Item := { it with cycles := it.cycles.map (fun n => min cyclesTop (n + 1)) }

/-- A quantum reaches the Service Schedule (R132). -/
def State.serviceQuantum (s : State) : State := s.serviceEvent ServiceBasis.hours id

/-- A reversal reaches the Service Schedule (R133). -/
def State.serviceReversal (s : State) : State := s.serviceEvent (· == .slewReversals) Item.addCycle

/-- A dig cycle reaches the Service Schedule (R133). -/
def State.serviceDigCycle (s : State) : State := s.serviceEvent (· == .digCycles) Item.addCycle

/-- One entry is written, evaluated before by its writer, with the reports of its move (R134) and a derate report where one
is due (R135): a move into or out of CRITICAL, or a change of the derate of an item that is CRITICAL before and after. -/
def State.writeItem (s : State) (i : Nat) (it : Item) : State :=
  (({ s with ret := { s.ret with items := s.ret.items.set i (some it) } }).report
    (itemReports i (stateOf (s.ret.item i)) (some it.state))).derateReport
    (criticalMoved (stateOf (s.ret.item i)) (some it.state) ||
      (it.state == ItemState.critical && stateOf (s.ret.item i) == some ItemState.critical &&
        (s.ret.item i).map Item.derate != some it.derate))

/-- An item whose counting starts afresh on its basis (R138, R140, R141). -/
def Item.restarted (r : Retained) (it : Item) : Item :=
  { it with
    stamp := if it.basis.hours then some (r.meterOf it.basis) else none
    cycles := if it.basis.hours then none else some 0 }

/-- SERVICE_DONE (R136, R141). -/
def State.serviceDone (s : State) (i : Nat) : State × ResultCode :=
  if !s.pins.keyAsserted then (s, .locked)
  else if 24 ≤ i then (s, .badIndex)
  else
    match s.ret.item i with
    | none => (s, .empty)
    | some it =>
      (s.writeItem i (({ it.restarted s.ret with timesDone := min 65535 (it.timesDone + 1) }).evaluated s.ret), .ok)

/-- Meaning of SERVICE_DONE (R141). -/
def execServiceDone (index : Byte) (s : State) : Result :=
  s.commit (fun s => (s.serviceDone index.toNat).1.answer 9 (s.serviceDone index.toNat).2 [])

/-- Meaning of SERVICE_KEY_ASSERTED (R136): the level is read by later requests; nothing else changes. -/
def execServiceKeyAsserted (s : State) : Result := s.commitPins { s.pins with keyAsserted := true } id

/-- Meaning of SERVICE_KEY_RELEASE (R172): a running drive test ends. -/
def execServiceKeyRelease (s : State) : Result :=
  s.commitPins { s.pins with keyAsserted := false } (fun s => { s with vd := s.vd.endTest })

end Sys2Proof.Machine
end

