-- ==== Sys2Proof/Machine/Economy.lean ====
section
/-! DEFINITION. The Economy Controller (chapter 7): inputs, activity, economy states and their timers, metering, fuel. -/

namespace Sys2Proof.Machine

/-! ### States (7.4) -/

/-- The auto-idle timer started from the delay in force. -/
def Settings.autoIdleStart (x : Settings) : Timer := some (x.autoIdleDelay * 1000)

/-- The shutdown timer on entry into IDLING: started where the shutdown delay is not 0 (R113). -/
def Settings.shutdownStart (x : Settings) : Timer := if x.shutdownDelay = 0 then none else some (x.shutdownDelay * 1000)

/-- Whether a drive test may run in an economy state (10 R171, R172). -/
def EconomyState.allowsTest : EconomyState → Bool
  | .stopped => true
  | .idling => true
  | .working => false
  | .settling => false
  | .shutdownRequested => false

/-- The economy state becomes `st` with its three timers as given: AUTO_IDLE and SHUTDOWN_PENDING are reported as the state
gives them (R115), a drive test ends where the state does not allow it (10 R172), and T is worked out afresh (R118). -/
def State.ecoMove (s : State) (st : EconomyState) (auto shut wait : Timer) : State :=
  (({ s with
      ec := { s.ec with state := st, autoIdle := auto, shutdown := shut, wait := wait }
      vd := if st.allowsTest then s.vd else s.vd.endTest }).report
    [.condition noticeAutoIdle (st == EconomyState.idling), .condition noticeShutdownPending (st == EconomyState.shutdownRequested)]).workOutTorque

/-- To enter WORKING (R112): WORKING where the machine is active or the auto-idle delay is 0, SETTLING otherwise. -/
def State.enterWorking (s : State) : State :=
  if s.ec.active || s.ret.settings.autoIdleDelay == 0 then s.ecoMove .working none none none
  else s.ecoMove .settling s.ret.settings.autoIdleStart none none

/-- The engine speed is judged against the running threshold (R110, R112). -/
def State.judgeEngine (s : State) : State :=
  match engineOutcome s.ret.settings.runThreshold s.ec with
  | .running => if s.ec.state = .stopped then s.enterWorking else s
  | .stopped => if s.ec.state = .stopped then s else s.ecoMove .stopped none none none
  | .unknown => s

/-! ### Activity (R111, R113) -/

/-- The activity condition (R111). The speed of the latest gate is judged against the still threshold as it stood at that gate,
so a write of the threshold acts from the next one. -/
def activityNow (x : Settings) (ec : Ec) : Bool :=
  (match ec.copies.getD 4 ⟨.disabled, none⟩ with
    | ⟨.fresh, some v⟩ => decide ((x.pilotThreshold : Int) < v)
    | _ => true) ||
  decide ((ec.gateStill : Int) < ec.omega) || decide (ec.omega < -(ec.gateStill : Int))

/-- Activity begins (R113). -/
def State.activityBegins (s : State) : State :=
  match s.ec.state with
  | .settling => s.ecoMove .working none none none
  | .idling => s.ecoMove .working none none none
  | _ => s

/-- Activity ends (R113). -/
def State.activityEnds (s : State) : State :=
  match s.ec.state with
  | .working =>
    if s.ret.settings.autoIdleDelay = 0 then s else s.ecoMove .settling s.ret.settings.autoIdleStart none none
  | _ => s

/-- The activity condition is judged afresh (R111); a change of it begins or ends activity. -/
def State.judgeActivity (s : State) : State :=
  let s' := { s with ec := { s.ec with active := activityNow s.ret.settings s.ec } }
  match s.ec.active, activityNow s.ret.settings s.ec with
  | false, true => s'.activityBegins
  | true, false => s'.activityEnds
  | _, _ => s'

/-- A gate completed reaches the Economy Controller (R110, R111). -/
def State.ecGate (s : State) (omega : Int) : State :=
  ({ s with ec := { s.ec with omega := omega, gateStill := s.ret.settings.still } }).judgeActivity

/-! ### Source reports (R110, R117, R121, R123) -/

/-- An accepted PUMP_PRESSURE sample is added while metering runs (R121). -/
def State.pumpSample (s : State) (v : Int) : State :=
  if s.metering then
    { s with ec := { s.ec with pumpSum := s.ec.pumpSum + v, pumpCount := s.ec.pumpCount + 1 } }
  else s

/-- The top of each Shift Summary figure (R124). -/
def shiftTop : Nat := 4294967295

/-- The interval an accepted FUEL_RATE sample closes, capped at the slot's timeout (R123). -/
def fuelInterval (prev : Option Nat) (now timeout : Nat) : Nat :=
  match prev with
  | none => 0
  | some t => min (now - t) timeout

/-- An accepted FUEL_RATE sample is integrated (R123). -/
def State.fuelSample (s : State) (v : Int) : State :=
  let total := s.ec.fuelRem + v.toNat * fuelInterval s.ec.prevFuel s.now (s.source 5).timeout
  { s with
    ret := { s.ret with shift := { s.ret.shift with fuel := min shiftTop (s.ret.shift.fuel + total / Config.fuelUnit) } }
    ec := { s.ec with fuelRem := total % Config.fuelUnit, prevFuel := some s.now } }

/-- A FUEL_RATE report of NEVER or DISABLED makes the previous time absent (R123). -/
def State.fuelState (s : State) (st : SourceState) : State :=
  if st = .never ∨ st = .disabled then { s with ec := { s.ec with prevFuel := none } } else s

/-- A report of slot 3..7: a change of state, an accepted sample, or both (01 R7). The copy of the slot is replaced (R110),
and what the source governs is judged. -/
def State.ecSource (s : State) (i : Nat) (x : SourceSlot) (accepted : Bool) : State :=
  let s' := { s with ec := { s.ec with copies := s.ec.copies.set (i - 3) ⟨x.state, x.lastGood⟩ } }
  match i with
  | 3 => if accepted then s'.pumpSample (x.lastGood.getD 0) else s'
  | 4 => s'.judgeEngine
  | 5 => if accepted then s'.fuelSample (x.lastGood.getD 0) else s'.fuelState x.state
  | 6 => s'.judgeOil
  | 7 => s'.judgeActivity
  | _ => s'

/-! ### Quanta (R120 to R122) -/

/-- The load class of a quantum (R121). -/
def loadClassOf (sum : Int) (count rated : Nat) : LoadClass :=
  if count = 0 then .normal
  else
    let pct := sum / (count : Int) * 100 / (rated : Int)
    if pct < 20 then .idle else if pct < 45 then .light else if pct < 75 then .normal else .heavy

/-- The weight W of a load class (R121). -/
def LoadClass.weight : LoadClass → Nat
  | .idle => 50
  | .light => 80
  | .normal => 100
  | .heavy => 150

/-- A quantum is tallied (R122, R124). -/
def Shift.tally (x : Shift) : LoadClass → Shift
  | .idle => { x with idle := min shiftTop (x.idle + 1) }
  | .light => { x with light := min shiftTop (x.light + 1) }
  | .normal => { x with normal := min shiftTop (x.normal + 1) }
  | .heavy => { x with heavy := min shiftTop (x.heavy + 1) }

/-- The top of the engine meter (R122). -/
def engineMeterTop : Nat := 4000000000

/-- The retained contents once a quantum of a load class has been metered and tallied (R122). -/
def Retained.metered (r : Retained) (c : LoadClass) : Retained :=
  { r with
    engineMeter := if r.engineMeter < engineMeterTop then r.engineMeter + 1 else r.engineMeter
    weightedMeter := if r.engineMeter < engineMeterTop then r.weightedMeter + c.weight else r.weightedMeter
    shift := r.shift.tally c }

/-- Running time that falls into the next quantum: what came in beyond the quantum's 36,000 ms (R120; log entry 3). -/
def Ec.excess (ec : Ec) : Nat := ec.partialMs + ec.overMs - Config.quantum

/-- A quantum completes (R120 to R122): meters and tally, sum and count back to 0, the next quantum begins at once, then the
Service Schedule. -/
def State.completeQuantum (s : State) : State :=
  let c := loadClassOf s.ec.pumpSum s.ec.pumpCount s.ret.settings.ratedPump
  ({ s with
      ret := s.ret.metered c
      ec := { s.ec with
        partialMs := min s.ec.excess (Config.quantum - 1), overMs := s.ec.excess - (Config.quantum - 1),
        pumpSum := 0, pumpCount := 0 } }).serviceQuantum

/-! ### Settings of the economy states (R109, R113) -/

/-- A write that changes the auto-idle delay, from `before` to the value now in force (R113). -/
def State.autoIdleWritten (s : State) (before : Nat) : State :=
  if s.ret.settings.autoIdleDelay = 0 then
    (if s.ec.state = .settling then s.ecoMove .working none none none else s)
  else if before = 0 ∧ s.ec.state = .working ∧ s.ec.active = false then
    s.ecoMove .settling s.ret.settings.autoIdleStart none none
  else s

/-- A write that changes the shutdown delay, from `before` to the value now in force (R113, R115). -/
def State.shutdownWritten (s : State) (before : Nat) : State :=
  if s.ec.state = .idling then
    if s.ret.settings.shutdownDelay = 0 then
      ({ s with ec := { s.ec with shutdown := none } }).report [.condition noticeShutdownPending false]
    else if before = 0 then { s with ec := { s.ec with shutdown := s.ret.settings.shutdownStart } }
    else s
  else s

/-! ### Meanings -/

/-- Meaning of AUTO_IDLE_TIMER_EXPIRY (R113). -/
def execAutoIdleTimerExpiry (s : State) : Result :=
  s.commit (fun s => s.expire s.ec.autoIdle (fun s =>
    if s.ec.state = .settling then s.ecoMove .idling none s.ret.settings.shutdownStart none
    else { s with ec := { s.ec with autoIdle := none } }))

/-- Meaning of SHUTDOWN_TIMER_30S_LEFT (R115): the running shutdown timer comes to 30 s left; where it has less left, or is
stopped, the moment does not come. -/
def execShutdownTimerLeft (s : State) : Result :=
  s.commit (fun s =>
    match s.ec.shutdown with
    | none => s
    | some left =>
      if left < Config.shutdownWarning then s
      else (s.elapse (left - Config.shutdownWarning)).report [.condition noticeShutdownPending true])

/-- Meaning of SHUTDOWN_TIMER_EXPIRY (R114). -/
def execShutdownTimerExpiry (s : State) : Result :=
  s.commit (fun s => s.expire s.ec.shutdown (fun s =>
    if s.ec.state = .idling then s.ecoMove .shutdownRequested none none (some Config.shutdownWait)
    else { s with ec := { s.ec with shutdown := none } }))

/-- Meaning of SHUTDOWN_WAIT_EXPIRY (R114). -/
def execShutdownWaitExpiry (s : State) : Result :=
  s.commit (fun s => s.expire s.ec.wait (fun s =>
    if s.ec.state = .shutdownRequested then s.ecoMove .idling none s.ret.settings.shutdownStart none
    else { s with ec := { s.ec with wait := none } }))

/-- Meaning of QUANTUM_COMPLETION (R120 to R122): the running time the quantum still lacks, if any, passes, and it completes;
while metering is paused no quantum completes (log entry 27). -/
def execQuantumCompletion (s : State) : Result :=
  s.commit (fun s =>
    if s.metering then (s.elapse (Config.quantum - (s.ec.partialMs + s.ec.overMs))).completeQuantum else s)

/-- SET_WORK_MODE with a mode index (R108, R113): the mode is selected and the request is a moment of activity. -/
def State.selectMode (s : State) (i : Nat) : State :=
  let s' := { s with ret := { s.ret with selectedMode := i } }
  match s.ec.state with
  | .settling => ({ s' with ec := { s'.ec with autoIdle := s'.ret.settings.autoIdleStart } }).workOutTorque
  | .idling =>
    if s.ret.settings.autoIdleDelay = 0 then s'.ecoMove .working none none none
    else s'.ecoMove .settling s'.ret.settings.autoIdleStart none none
  | _ => s'.workOutTorque

/-- Meaning of SET_WORK_MODE (R108). -/
def execSetWorkMode (index : Byte) (s : State) : Result :=
  s.commit (fun s =>
    if index.toNat < 4 then (s.selectMode index.toNat).answer 8 .ok [] else s.answer 8 .badIndex [])

/-- Meaning of CLEAR_SHIFT (R124). -/
def execClearShift (s : State) : Result :=
  s.commit (fun s =>
    ({ s with ret := { s.ret with shift := zeroShift }, ec := { s.ec with fuelRem := 0 } }).answer 18 .ok [])

end Sys2Proof.Machine
end

