-- ==== Sys2Proof/Machine/Pose.lean ====
section
/-! DEFINITION. The Pose Unit (chapter 3): the four stages, the Pose record, its publication, the dig-cycle detector. -/

namespace Sys2Proof.Machine

/-- Stage 1 (R39): the angle word of a link from its sensor word and offset. -/
def linkAngle (word offset : Int) : Nat := (((word + 2) / 4 % 16384 + offset) % 16384).toNat

/-- The radial term of a link (R40). -/
def radialTerm (length : Int) (a : Nat) : Int := rndDiv (length * cosA a) 32768

/-- The vertical term of a link (R40). -/
def verticalTerm (length : Int) (a : Nat) : Int := rndDiv (length * sinA a) 32768

/-- Stages 1 to 3 (R39 to R41): the radius and the height from the sensor words of BOOM, STICK and BUCKET. -/
def tipRadius (g : Dims) (wb ws wk : Int) : Int :=
  g.fr + radialTerm g.lb (linkAngle wb g.ob) + radialTerm g.ls (linkAngle ws g.os) + radialTerm g.lk (linkAngle wk g.ok)

def tipHeight (g : Dims) (wb ws wk : Int) : Int :=
  g.fz + verticalTerm g.lb (linkAngle wb g.ob) + verticalTerm g.ls (linkAngle ws g.os) +
    verticalTerm g.lk (linkAngle wk g.ok)

/-- The quality of a pose (R43). -/
def poseQuality (g : Geometry) (pu : Pu) : Quality :=
  if g.dims.isNone || pu.links != [.fresh, .fresh, .fresh] then .invalid
  else if pu.gateRef then .complete else .noSlew

/-- The Pose record of a recompute (R43, R44, R47), from the held inputs, the Geometry record and the last good values of the
three link slots. -/
def poseOf (g : Geometry) (pu : Pu) (wb ws wk : Int) : Pose :=
  let q := poseQuality g pu
  let phi := if pu.gateRef then some pu.gatePhi else none
  let seq := (pu.pose.seq + 1) % 65536
  match q, g.dims with
  | .complete, some d =>
    { seq, quality := q, phi, omega := pu.gateOmega,
      r := some (tipRadius d wb ws wk), z := some (tipHeight d wb ws wk),
      x := some (rndDiv (tipRadius d wb ws wk * cosA pu.gatePhi) 32768),
      y := some (rndDiv (tipRadius d wb ws wk * sinA pu.gatePhi) 32768) }
  | .noSlew, some d =>
    { seq, quality := q, phi, omega := pu.gateOmega,
      r := some (tipRadius d wb ws wk), z := some (tipHeight d wb ws wk), x := none, y := none }
  | _, _ => { seq, quality := .invalid, phi, omega := pu.gateOmega, r := none, z := none, x := none, y := none }

/-- The detector after a pose (R48). -/
def detectorNext (g : Geometry) (d : Detector) (z : Option Int) : Detector :=
  match d, z with
  | .waitDig, some z => if z < g.dig then .waitDump else .waitDig
  | .waitDump, some z => if g.dump < z then .waitDig else .waitDump
  | d, none => d

/-- Whether a pose sends a dig cycle (R48). -/
def digCycle (g : Geometry) (d : Detector) (z : Option Int) : Bool :=
  match d, z with
  | .waitDump, some z => decide (g.dump < z)
  | _, _ => false

/-- The sensor word of a link slot: the last good value as the Machine Bus Port holds it (R39, R44). -/
def State.linkWord (s : State) (i : Nat) : Int := (s.slot i).lastGood.getD 0

/-- The pose that a recompute publishes now. -/
def State.nextPose (s : State) : Pose :=
  poseOf s.ret.geometry s.pu (s.linkWord 0) (s.linkWord 1) (s.linkWord 2)

/-- The Pose record is replaced and handed to its receivers' held poses (R47), and the detector moves (R48). -/
def State.publish (s : State) (p : Pose) : State :=
  { s with
    pu := { s.pu with pose := p, detector := detectorNext s.ret.geometry s.pu.detector p.z }
    slm := { s.slm with held := p }
    gg := { s.gg with held := p } }

/-- One recompute and the publication of one pose (R45, R47): the Slew Limiter and the Grade Guide evaluate it, and a dig
cycle goes to the Service Schedule. -/
def State.recompute (s : State) : State :=
  let s' := ((s.publish s.nextPose).evaluateLimits).evaluateGrade
  if digCycle s.ret.geometry s.pu.detector s.nextPose.z then s'.serviceDigCycle else s'

/-- A state report of slot 0, 1 or 2 reaches the Pose Unit (R44, R45). -/
def State.puSource (s : State) (i : Nat) (st : SourceState) : State :=
  ({ s with pu := { s.pu with links := s.pu.links.set i st } }).recompute

/-- A gate completed reaches the Pose Unit (R44, R45). -/
def State.puGate (s : State) (phi : Nat) (referenced : Bool) (omega : Int) : State :=
  ({ s with pu := { s.pu with gatePhi := phi, gateRef := referenced, gateOmega := omega } }).recompute

end Sys2Proof.Machine
end

