-- ==== Sys2Proof/Machine/Slew.lean ====
section
/-! DEFINITION. The Slew Counter (chapter 2): steps, the index mark, the gate and slew speed, the reversal detector. -/

namespace Sys2Proof.Machine

/-- The slew angle of a count (R22). -/
def slewAngle (cpr count : Nat) : Nat := count * 16384 / cpr

/-- The place of a pair of levels in the quadrature cycle (R20). -/
def quadrature (a b : Bool) : Nat :=
  match a, b with
  | false, false => 0
  | true, false => 1
  | true, true => 2
  | false, true => 3

/-- The step that a change of the pair makes (R20): LEFT one place forward, RIGHT one place back, none otherwise. -/
def stepOf (a b a' b' : Bool) : Option RunDir :=
  match (quadrature a' b' + (4 - quadrature a b)) % 4 with
  | 1 => some .left
  | 3 => some .right
  | _ => none

/-- The count after a step (R20). -/
def countAfter (cpr count : Nat) (left : Bool) : Nat :=
  if left then (if cpr ≤ count + 1 then 0 else count + 1) else (if count = 0 then cpr - 1 else count - 1)

/-- Whether a step brings the travel since index above 2 × CPR (R26). -/
def indexMissed (cpr travel : Nat) : Bool := decide (2 * cpr < travel + 1)

/-- One step (R20, R21, R26). -/
def State.slewStep (s : State) (left : Bool) : State :=
  let cpr := s.ret.settings.cpr
  let missed := indexMissed cpr s.sc.travel
  ({ s with sc := { s.sc with
      count := countAfter cpr s.sc.count left
      travel := if missed then 0 else s.sc.travel + 1
      referenced := if missed then false else s.sc.referenced
      gateAcc := s.sc.gateAcc + (if left then 1 else -1) } }).report
    (if missed then [.cause noticeIndexMissing false, .condition noticeSlewUnreferenced true] else [])

/-- Meaning of STEP (R20). -/
def execSlewStep (a b : Bool) (s : State) : Result :=
  s.commitPins { s.pins with slewA := a, slewB := b } (fun t =>
    match stepOf s.pins.slewA s.pins.slewB a b with
    | some .left => t.slewStep true
    | some .right => t.slewStep false
    | _ => t)

/-- The difference d of a count from the index position, folded to the nearer way round (R23). -/
def indexDifference (cpr indexPos count : Nat) : Int :=
  let e := ((count : Int) - indexPos) % cpr
  if 2 * e ≤ cpr then e else e - cpr

/-- The index mark is taken (R23, R25, R27). -/
def State.indexMark (s : State) : State :=
  let x := s.ret.settings
  ({ s with sc := { s.sc with count := x.indexPos, referenced := true, travel := 0 } }).report
    (if s.sc.referenced then
      (if x.slipTol < (indexDifference x.cpr x.indexPos s.sc.count).natAbs then [.cause noticeSlewSlip false] else [])
    else [.condition noticeSlewUnreferenced false])

/-- Meaning of INDEX_MARK (R23): an edge rises only from a low SLEW_Z. -/
def execIndexMark (s : State) : Result :=
  s.commitPins { s.pins with slewZ := true } (fun t => if s.pins.slewZ then t else t.indexMark)

/-- Meaning of SLEW_Z_FALL (R23): the next rising edge is a mark. -/
def execSlewZFall (s : State) : Result := s.commitPins { s.pins with slewZ := false } id

/-- The slew speed over a gate (R28). -/
def slewSpeed (cpr : Nat) (dc : Int) : Int := clampInt (-32767) 32767 (rndDiv (dc * 1638400) cpr)

/-- The direction of a gate (R30). -/
def gateDir (still : Nat) (omega : Int) : RunDir :=
  if (still : Int) < omega then .left else if omega < -(still : Int) then .right else .none

/-- The length of a run in angle units (R30). -/
def runLength (cpr runCount : Nat) : Int := rndDiv ((runCount : Int) * 16384) cpr

/-- The run after a gate (R30). -/
def runNext (cpr : Nat) (dir : RunDir) (dc : Int) (runDir : RunDir) (runCount : Nat) : RunDir × Nat :=
  match dir with
  | .none => (runDir, runCount)
  | _ => if dir = runDir then (runDir, min cpr (runCount + dc.natAbs)) else (dir, min cpr dc.natAbs)

/-- Whether a gate sends a reversal (R31): it is opposite to a run at least as long as the minimum swing arc. -/
def sendsReversal (x : Settings) (dir runDir : RunDir) (runCount : Nat) : Bool :=
  dir != .none && runDir != .none && dir != runDir && decide ((x.minSwing : Int) ≤ runLength x.cpr runCount)

/-- The Slew Counter after a gate has closed (R28, R30). -/
def Sc.closed (x : Settings) (sc : Sc) : Sc :=
  let omega := slewSpeed x.cpr sc.gateAcc
  let run := runNext x.cpr (gateDir x.still omega) sc.gateAcc sc.runDir sc.runCount
  { sc with gateAcc := 0, gate := some Config.gateTime, omega := omega, runDir := run.1, runCount := run.2 }

/-- The gate closes (R28) and is published (R29) with the count and the reference state that go out with it: to the Pose Unit,
to the Economy Controller, and to the reversal detector, which may send a reversal to the Service Schedule (R31). -/
def State.closeGate (s : State) (count : Nat) (referenced : Bool) : State :=
  let x := s.ret.settings
  let omega := slewSpeed x.cpr s.sc.gateAcc
  let t := ({ s with sc := s.sc.closed x }).puGate (slewAngle x.cpr count) referenced omega |>.ecGate omega
  if sendsReversal x (gateDir x.still omega) s.sc.runDir s.sc.runCount then t.serviceReversal else t

end Sys2Proof.Machine
end

