-- ==== Sys2Proof/Machine/Bus.lean ====
section
/-! DEFINITION. The Machine Bus Port (chapter 1): sample arrival, source timeouts, the Demand message. -/

namespace Sys2Proof.Machine

/-! ### Samples (1.3 to 1.5) -/

/-- A slot's consumer is told (R7): of each change of state, and, for slots 3 to 7, of each accepted sample. -/
def State.tellConsumer (s : State) (i : Nat) (changed accepted : Bool) : State :=
  if i < 3 then (if changed then s.puSource i (s.slot i).state else s)
  else if changed || accepted then s.ecSource i (s.slot i) accepted
  else s

/-- The data length of a frame: a data length code above 8 is taken as 8 (R1). -/
def frameLength (f : CanFrame) : Nat := min f.dlc 8

/-- The two bytes at an offset as a word, by byte order (R3). -/
def frameWord (f : CanFrame) (offset : Nat) (order : ByteOrder) : Nat :=
  let a := (f.data.getD offset 0).toNat
  let b := (f.data.getD (offset + 1) 0).toNat
  match order with
  | .lowFirst => a + 256 * b
  | .highFirst => 256 * a + b

/-- A 16-bit word read with a slot's signedness (R3). -/
def wordValue (signed : Bool) (w : Nat) : Int := if signed && decide (32768 ≤ w) then (w : Int) - 65536 else w

/-- The sample a slot takes from a frame: its value where it is plausible, none where it is not (R3). -/
def sampleOf (i : Nat) (src : SourceRecord) (f : CanFrame) : Option Int :=
  let v := wordValue (sourceSigned i) (frameWord f src.offset src.order)
  if src.offset + 2 ≤ frameLength f ∧ src.lo ≤ v ∧ v ≤ src.hi then some v else none

/-- The state of a slot after an implausible sample (R5). -/
def implausibleNext : SourceState → SourceState
  | .stale => .stale
  | .disabled => .disabled
  | _ => .implausible

/-- A plausible sample is accepted (R4): FRESH, value and time kept, timer restarted; SOURCE_LOST's condition ends where the
slot leaves STALE (R8). -/
def State.acceptSample (s : State) (i : Nat) (v : Int) : State :=
  let old := s.slot i
  ((s.setSlot i { state := .fresh, lastGood := some v, lastTime := some s.now,
                  timer := some (s.source i).timeout }).report
    (if old.state = .stale then [.condition (noticeSourceLost i) false] else [])).tellConsumer i
    (old.state != .fresh) true

/-- An implausible sample is refused (R5): value, time and timer are kept, the state moves, a cause of SOURCE_IMPLAUSIBLE is
reported (R8). -/
def State.refuseSample (s : State) (i : Nat) : State :=
  let old := s.slot i
  ((s.setSlot i { old with state := implausibleNext old.state }).report
    [.cause (noticeSourceImplausible i) false]).tellConsumer i (implausibleNext old.state != old.state) false

/-- A slot takes its sample from a frame (R3). -/
def State.takeSample (f : CanFrame) (s : State) (i : Nat) : State :=
  match sampleOf i (s.source i) f with
  | some v => s.acceptSample i v
  | none => s.refuseSample i

/-- The slots that a frame's identifier matches, ascending (R3): those not DISABLED that hold it. -/
def State.matching (s : State) (f : CanFrame) : List Nat :=
  (List.range 8).filter (fun i => decide ((s.slot i).state ≠ .disabled) && decide ((s.source i).identifier = some f.ident))

/-- A frame arrives at the Source Table (R1, R3): every matching slot takes its sample, in the order the free value picks
(log entry 7). -/
def State.frameArrives (s : State) (f : CanFrame) : State :=
  let order := shuffle (s.matching f).length s.choice (s.matching f)
  order.1.foldl (State.takeSample f) { s with choice := order.2 }

/-- Meaning of FRAME_ARRIVAL (R1, R3): a frame with an 11-bit identifier, a remote frame and a frame of the port's own reach no
slot. -/
def execFrameArrival (f : CanFrame) (s : State) : Result :=
  s.commit (fun s => if f.extended && !f.remote && !f.own then s.frameArrives f else s)

/-- A slot's timeout has run out (R6, R8). -/
def State.sourceLost (s : State) (i : Nat) : State :=
  ((s.setSlot i { s.slot i with state := .stale, timer := none }).report
    [.condition (noticeSourceLost i) true]).tellConsumer i true false

/-- Meaning of SOURCE_TIMEOUT_EXPIRY (R6). -/
def execSourceTimeoutExpiry (slot : Fin 8) (s : State) : Result :=
  s.commit (fun s => s.expire (s.slot slot.val).timer (fun s => s.sourceLost slot.val))

/-! ### The Demand message (1.10) -/

/-- Demand transmission is enabled (R12). -/
def demandEnabled (x : Settings) : Bool := x.demandEnable && x.demandId.isSome

/-- The Demand message built now (R12): the content of the Economy Controller (07 R116), the rolling counter, the
identifier. -/
def demandMessage (ret : Retained) (ec : Ec) (counter : Nat) : DemandMessage :=
  { ident := ret.settings.demandId.getD 0, speed := speedDemand ret ec.state, torque := ec.torque,
    idle := ec.state == .idling, shutdown := ec.state == .shutdownRequested, counter }

/-- The data field of a Demand message (01, Demand frame layout). -/
def DemandMessage.bytes (m : DemandMessage) : List Byte :=
  [BitVec.ofNat 8 m.speed, BitVec.ofNat 8 (m.speed / 256), BitVec.ofNat 8 m.torque,
   BitVec.ofNat 8 (yesNo m.idle + 2 * yesNo m.shutdown), BitVec.ofNat 8 (m.counter % 16), 0, 0, 0]

/-- A message is built at a period expiry (R12): it replaces one still waiting, the counter advances, the timer restarts. -/
def Mbp.build (m : Mbp) (message : DemandMessage) : Mbp :=
  { m with waiting := some message, built := true, acked := false, rolling := (m.rolling + 1) % 16,
           period := some Config.demandPeriod }

/-- Entry into BUS_OFF (R15). -/
def Mbp.enterBusOff (m : Mbp) : Mbp :=
  { m with busOff := true, waiting := none, built := false, acked := false, deferred := false, period := none,
           unsent := 0, recovery := some Config.recoveryTime }

/-- BUS_OFF is entered and DEMAND_UNSENT reported present (R15). -/
def State.enterBusOff (s : State) : State :=
  ({ s with mbp := s.mbp.enterBusOff }).report [.condition noticeDemandUnsent true]

/-- The count of consecutive unsent periods once the ending period is judged (R14); a period with no message is not judged. -/
def Mbp.judged (m : Mbp) : Nat := if m.built then (if m.acked then 0 else m.unsent + 1) else m.unsent

/-- The period timer runs out (R12, R14). Where an attempt of the ending period's message is on the bus, the judgement waits
for its end and the new message waits behind it. -/
def State.periodEnds (s : State) (attemptOnBus : Bool) : State :=
  let message := demandMessage s.ret s.ec s.mbp.rolling
  if attemptOnBus && s.mbp.waiting.isSome && !s.mbp.deferred then
    { s with mbp := { s.mbp.build message with deferred := true } }
  else if Config.unsentLimit ≤ s.mbp.judged then s.enterBusOff
  else { s with mbp := { s.mbp with unsent := s.mbp.judged }.build message }

/-- Meaning of PERIOD_TIMER_EXPIRY (R14). -/
def execPeriodTimerExpiry (attemptOnBus : Bool) (s : State) : Result :=
  s.commit (fun s => s.expire s.mbp.period (fun s => s.periodEnds attemptOnBus))

/-- An attempt ends (R13, R14, R15). A deferred attempt decides how the ending period is counted; an acknowledged one of the
running period completes its message; an unacknowledged one leaves it to be tried again. -/
def State.attemptEnds (s : State) (acknowledged : Bool) : State :=
  if s.mbp.deferred then
    if acknowledged then
      ({ s with mbp := { s.mbp with deferred := false, unsent := 0 } }).report [.condition noticeDemandUnsent false]
    else if Config.unsentLimit ≤ s.mbp.unsent + 1 then s.enterBusOff
    else { s with mbp := { s.mbp with deferred := false, unsent := s.mbp.unsent + 1 } }
  else if acknowledged && s.mbp.waiting.isSome then
    ({ s with mbp := { s.mbp with waiting := none, acked := true } }).report [.condition noticeDemandUnsent false]
  else s

/-- Meaning of TRANSMISSION_ATTEMPT_END (R13). -/
def execTransmissionAttemptEnd (acknowledged : Bool) (s : State) : Result :=
  s.commit (fun s => s.attemptEnds acknowledged)

/-- Meaning of RECOVERY_TIMER_EXPIRY (R15): ACTIVE again, the period timer started. -/
def execRecoveryTimerExpiry (s : State) : Result :=
  s.commit (fun s => s.expire s.mbp.recovery (fun s =>
    { s with mbp := { s.mbp with busOff := false, recovery := none, built := false, acked := false,
                                 period := some Config.demandPeriod } }))

/-- Demand transmission becomes disabled (R16). -/
def State.demandDisabled (s : State) : State :=
  ({ s with mbp := { s.mbp with waiting := none, built := false, acked := false, deferred := false, period := none,
                                recovery := none, busOff := false, unsent := 0 } }).report
    [.condition noticeDemandUnsent false]

/-- Demand transmission becomes enabled (R12). -/
def State.demandStarted (s : State) : State :=
  { s with mbp := { s.mbp with period := some Config.demandPeriod, built := false, acked := false } }

/-- The settings that govern transmission have been written; `before` says whether it was enabled (R12, R16). -/
def State.demandWritten (s : State) (before : Bool) : State :=
  match before, demandEnabled s.ret.settings with
  | true, false => s.demandDisabled
  | false, true => s.demandStarted
  | _, _ => s

/-- The bit rate has changed (R1): an attempt in progress ends unacknowledged, which decides a deferred judgement and leaves
any other message to be tried again. -/
def State.busRejoined (s : State) : State := if s.mbp.deferred then s.attemptEnds false else s

/-! ### Requests on SOURCES (1.6) -/

/-- A slot's record is replaced (R9, R10): NEVER with its timer started where the identifier is present, DISABLED otherwise;
SOURCE_LOST's condition ends where the slot was STALE, and a change of state is reported. -/
def State.writeSource (s : State) (i : Nat) (x : SourceRecord) : State :=
  let old := (s.slot i).state
  let new := if x.identifier.isSome then SourceState.never else .disabled
  (((s.setSource i x).setSlot i
      { state := new, lastGood := none, lastTime := none,
        timer := if x.identifier.isSome then some x.timeout else none }).report
    (if old = .stale then [.condition (noticeSourceLost i) false] else [])).tellConsumer i (new != old) false

/-- RETIRE of a slot (R10). -/
def State.retireSource (s : State) (i : Nat) : State := s.writeSource i (defaultSources.getD i (sourceDefault 0 0))

end Sys2Proof.Machine
end

