-- ==== Sys2Proof/Machine/ZoneRequests.lean ====
section
/-! DEFINITION. The requests on ZONES and SECTORS, OPEN_ZONES, CLOSE_ZONES and the edit timer (chapter 4). A table request
answers the state after it, the result and the response's payload. -/

namespace Sys2Proof.Machine

/-- The index ANY (11 Table 11-2). -/
def anyIndex : Nat := 255

/-- The lowest EMPTY entry of a table (R63). -/
def lowestEmpty {α : Type} (entries : List (Option α)) : Option Nat := entries.findIdx? Option.isNone

/-- The entry a PUT names (R63): the index itself, or the lowest EMPTY one for ANY. -/
def putPlace {α : Type} (entries : List (Option α)) (index : Nat) : Option Nat :=
  if index = anyIndex then lowestEmpty entries else some index

/-- The payload of a PUT that is done: the index written (11 R181). -/
def indexWritten (i : Nat) : List Byte := [BitVec.ofNat 8 i]

/-- The state field of a zone or a surface PUT: ACTIVE 1, DORMANT 2; EMPTY and every other code fail (R62, 06 R91). -/
def activeOf : Nat → Option Bool
  | 1 => some true
  | 2 => some false
  | _ => none

/-- The limit checks of R62. -/
def zoneLimitOk (c : ZoneCondition) (limit : Option Int) : Bool :=
  match c, limit with
  | .always, none => true
  | .always, some _ => false
  | .tipAbove, some l => decide (-30000 ≤ l ∧ l ≤ 30000)
  | .tipBelow, some l => decide (-30000 ≤ l ∧ l ≤ 30000)
  | .reachBeyond, some l => decide (0 ≤ l ∧ l ≤ 45000)
  | _, none => false

/-- The zone a PUT payload holds (11 Table 11-4), where every field passes the checks of R62. The tag's check fails for the
absent mark, 65535, which R182 makes an out-of-range value (DEDUCED, log entry 34). -/
def zoneOf (p : List Byte) : Option Zone :=
  match activeOf (fieldNat p 0 1), zoneConditionOf (fieldNat p 5 1), clsOf (fieldNat p 10 1) with
  | some active, some condition, some cls =>
    let z : Zone := { active, start := fieldNat p 1 2, width := fieldNat p 3 2, condition, limit := fieldOptInt p 6 4, cls,
                      tag := fieldNat p 11 2 }
    if z.start ≤ 16383 ∧ 1 ≤ z.width ∧ z.width ≤ 16384 ∧ zoneLimitOk condition z.limit ∧ cls ≠ .free ∧
        z.tag < absentMark 2 then some z else none
  | _, _, _ => none

/-- The edit timer is started from the full edit timeout in force (R57, R61). -/
def State.startEdit (s : State) : State :=
  { s with zt := { s.zt with edit := some (s.ret.settings.editTimeout * 1000) } }

/-- An entry of the Zone Table is replaced. -/
def State.setZone (s : State) (i : Nat) (z : Option Zone) : State :=
  { s with ret := { s.ret with zones := s.ret.zones.set i z } }

/-- An entry of the Sector Map is replaced. -/
def State.setSector (s : State) (i : Nat) (x : Sector) : State :=
  { s with ret := { s.ret with sectors := s.ret.sectors.set i x } }

/-- PUT_ENTRY on ZONES (R61 to R63, R67). -/
def State.putZone (s : State) (index : Nat) (payload : List Byte) : State × ResultCode × List Byte :=
  if !s.zt.isOpen then (s, .notOpen, [])
  else
    let t := s.startEdit
    if 12 ≤ index ∧ index ≠ anyIndex then (t, .badIndex, [])
    else
      match zoneOf payload, putPlace s.ret.zones index with
      | none, _ => (t, .badValue, [])
      | some _, none => (t, .full, [])
      | some z, some i => ((t.setZone i (some z)).evaluateLimits, .ok, indexWritten i)

/-- RETIRE_ENTRY on ZONES (R61, R64). -/
def State.retireZone (s : State) (index : Nat) : State × ResultCode × List Byte :=
  if !s.zt.isOpen then (s, .notOpen, [])
  else
    let t := s.startEdit
    if 12 ≤ index then (t, .badIndex, [])
    else
      match s.ret.zones.getD index none with
      | none => (t, .empty, [])
      | some _ => ((t.setZone index none).evaluateLimits, .ok, [])

/-- READ_ENTRY on ZONES (R66). -/
def State.readZone (s : State) (index : Nat) : ResultCode × List Byte :=
  if 12 ≤ index then (.badIndex, [])
  else
    match s.ret.zones.getD index none with
    | none => (.empty, toBe 1 (entryState none))
    | some z =>
      (.ok, toBe 1 (entryState (some z.active)) ++ toBe 2 z.start ++ toBe 2 z.width ++ toBe 1 z.condition.code ++
        optBeInt 4 z.limit ++ toBe 1 z.cls.code ++ toBe 2 z.tag ++ toBe 1 (yesNo (s.zt.engaged.getD index false)))

/-- LIST_TABLE on ZONES (R66): state and engaged flag of each entry. -/
def State.listZones (s : State) : List Byte :=
  (List.range 12).flatMap (fun i =>
    toBe 1 (entryState ((s.ret.zones.getD i none).map Zone.active)) ++ toBe 1 (yesNo (s.zt.engaged.getD i false)))

/-- The sector a PUT payload holds, where both fields pass the checks of R65. -/
def sectorOf (p : List Byte) : Option Sector :=
  match clsOf (fieldNat p 0 1), fieldNat p 1 1 with
  | some cls, 0 => some ⟨cls, false⟩
  | some cls, 1 => some ⟨cls, true⟩
  | _, _ => none

/-- PUT_ENTRY on SECTORS (R61, R65). -/
def State.putSector (s : State) (index : Nat) (payload : List Byte) : State × ResultCode × List Byte :=
  if !s.zt.isOpen then (s, .notOpen, [])
  else
    let t := s.startEdit
    if 32 ≤ index then (t, .badIndex, [])
    else
      match sectorOf payload with
      | none => (t, .badValue, [])
      | some x => ((t.setSector index x).evaluateLimits, .ok, indexWritten index)

/-- RETIRE_ENTRY on SECTORS (R61, R65). -/
def State.retireSector (s : State) (index : Nat) : State × ResultCode × List Byte :=
  if !s.zt.isOpen then (s, .notOpen, [])
  else if 32 ≤ index then (s.startEdit, .badIndex, [])
  else ((s.startEdit.setSector index defaultSector).evaluateLimits, .ok, [])

/-- READ_ENTRY on SECTORS (R66). -/
def State.readSector (s : State) (index : Nat) : ResultCode × List Byte :=
  if 32 ≤ index then (.badIndex, [])
  else
    let x := s.ret.sectors.getD index defaultSector
    (.ok, toBe 1 x.cls.code ++ toBe 1 (yesNo x.firm))

/-- LIST_TABLE on SECTORS (R66, 11 Table 11-4): the class of each sector, plus 128 when firm. -/
def State.listSectors (s : State) : List Byte :=
  (List.range 32).flatMap (fun i =>
    toBe 1 ((s.ret.sectors.getD i defaultSector).cls.code + 128 * yesNo (s.ret.sectors.getD i defaultSector).firm))

/-! ### Modes -/

/-- OPEN_ZONES (R57, R60, R67). -/
def State.openZones (s : State) : State :=
  if s.zt.isOpen then s.startEdit
  else
    let t := s.startEdit
    (({ t with zt := { t.zt with isOpen := true } }).report [.condition noticeZoneEditOpen true]).evaluateLimits

/-- The table moves to CLOSED (R58, R59): the timer stops, the notices given are reported, the Slew Limiter evaluates. -/
def State.closeTable (s : State) (reports : List Report) : State :=
  (({ s with zt := { s.zt with isOpen := false, edit := none } }).report reports).evaluateLimits

/-- Meaning of OPEN_ZONES (R57). -/
def execOpenZones (s : State) : Result := s.commit (fun s => s.openZones.answer 5 .ok [])

/-- Meaning of CLOSE_ZONES (R58). -/
def execCloseZones (s : State) : Result :=
  s.commit (fun s =>
    if s.zt.isOpen then (s.closeTable [.condition noticeZoneEditOpen false]).answer 6 .ok []
    else s.answer 6 .state [])

/-- Meaning of EDIT_TIMER_EXPIRY (R59). -/
def execEditTimerExpiry (s : State) : Result :=
  s.commit (fun s => s.expire s.zt.edit (fun s =>
    s.closeTable [.condition noticeZoneEditOpen false, .cause noticeZoneEditTimeout false]))

end Sys2Proof.Machine
end

