-- ==== Sys2Proof/Machine/GradeRequests.lean ====
section
/-! DEFINITION. The requests on SURFACES, SELECT_TARGET and the hold timer (chapter 6). -/

namespace Sys2Proof.Machine

/-- The surface a PUT payload holds (11 Table 11-4), where every field passes the checks of R91. The tag's
check fails for the absent mark, 65535, which R182 makes an out-of-range value (DEDUCED, log entry 34). -/
def surfaceOf (p : List Byte) : Option Surface :=
  match activeOf (fieldNat p 0 1), surfaceKindOf (fieldNat p 1 1) with
  | some active, some kind =>
    let f : Surface := { active, kind, h0 := fieldInt p 2 2, sx := fieldInt p 4 2, sy := fieldInt p 6 2,
                         start := fieldNat p 8 2, width := fieldNat p 10 2, tag := fieldNat p 12 2 }
    if -30000 ≤ f.h0 ∧ f.h0 ≤ 30000 ∧ -2000 ≤ f.sx ∧ f.sx ≤ 2000 ∧ -2000 ≤ f.sy ∧ f.sy ≤ 2000 ∧
        f.start ≤ 16383 ∧ 1 ≤ f.width ∧ f.width ≤ 16384 ∧ f.tag < absentMark 2 then some f
    else none
  | _, _ => none

/-- Whether an entry can be selected: an ACTIVE GRADE surface (R94, R95). -/
def selectable (e : Option Surface) : Bool :=
  match e with
  | some f => f.active && f.kind == .grade
  | none => false

/-- An entry of the Surface Table is replaced, and the selection follows it (R95). -/
def Retained.setSurface (r : Retained) (i : Nat) (e : Option Surface) : Retained :=
  { r with
    surfaces := r.surfaces.set i e
    selection := if r.selection = some i ∧ selectable e = false then none else r.selection }

/-- An entry of the Surface Table is replaced and evaluated (R92, R93, R95, R96). -/
def State.writeSurface (s : State) (i : Nat) (e : Option Surface) : State :=
  ({ s with ret := s.ret.setSurface i e }).evaluateGrade

/-- PUT_ENTRY on SURFACES (R91, R92). -/
def State.putSurface (s : State) (index : Nat) (payload : List Byte) : State × ResultCode × List Byte :=
  if 8 ≤ index ∧ index ≠ anyIndex then (s, .badIndex, [])
  else
    match surfaceOf payload, putPlace s.ret.surfaces index with
    | none, _ => (s, .badValue, [])
    | some _, none => (s, .full, [])
    | some f, some i => (s.writeSurface i (some f), .ok, indexWritten i)

/-- RETIRE_ENTRY on SURFACES (R93). -/
def State.retireSurface (s : State) (index : Nat) : State × ResultCode × List Byte :=
  if 8 ≤ index then (s, .badIndex, [])
  else
    match s.ret.surface index with
    | none => (s, .empty, [])
    | some _ => (s.writeSurface index none, .ok, [])

/-- READ_ENTRY on SURFACES (R93). -/
def State.readSurface (s : State) (index : Nat) : ResultCode × List Byte :=
  if 8 ≤ index then (.badIndex, [])
  else
    match s.ret.surface index with
    | none => (.empty, toBe 1 (entryState none))
    | some f =>
      (.ok, toBe 1 (entryState (some f.active)) ++ toBe 1 f.kind.code ++ toBeInt 2 f.h0 ++ toBeInt 2 f.sx ++
        toBeInt 2 f.sy ++ toBe 2 f.start ++ toBe 2 f.width ++ toBe 2 f.tag)

/-- LIST_TABLE on SURFACES (R93): state and kind of each entry, the kind absent for an EMPTY one. -/
def State.listSurfaces (s : State) : List Byte :=
  (List.range 8).flatMap (fun i =>
    toBe 1 (entryState ((s.ret.surface i).map Surface.active)) ++ optBe 1 ((s.ret.surface i).map (fun f => f.kind.code)))

/-- The value NONE of SELECT_TARGET (11 Table 11-2). -/
def targetNone : Nat := 254

/-- The target selection is written and evaluated (R94, R96). -/
def State.setSelection (s : State) (selection : Option Nat) : State :=
  ({ s with ret := { s.ret with selection := selection } }).evaluateGrade

/-- SELECT_TARGET (R94). -/
def State.selectTarget (s : State) (index : Nat) : State × ResultCode :=
  if index = targetNone then (s.setSelection none, .ok)
  else if 8 ≤ index then (s, .badIndex)
  else if selectable (s.ret.surface index) then (s.setSelection (some index), .ok)
  else (s, .state)

/-- Meaning of SELECT_TARGET (R94). -/
def execSelectTarget (index : Byte) (s : State) : Result :=
  s.commit (fun s => (s.selectTarget index.toNat).1.answer 7 (s.selectTarget index.toNat).2 [])

/-- The floor record once the hold has run out (R100). -/
def floorUnavailable : FloorRecord :=
  { state := .unavailable, held := none, index := none, dF := none, band := none, target := 0 }

/-- Meaning of HOLD_TIMER_EXPIRY (R100). -/
def execHoldTimerExpiry (s : State) : Result :=
  s.commit (fun s => s.expire s.gg.hold (fun s =>
    if s.gg.floor.state = .holding then s.setFloor floorUnavailable none
    else { s with gg := { s.gg with hold := none } }))

end Sys2Proof.Machine
end

