-- ==== Sys2Proof/Machine/Settings.lean ====
section
/-! DEFINITION. The SETTINGS table (11 Table 11-3): reading, clamping, writing, and what each changed setting does at its
owner. -/

namespace Sys2Proof.Machine

/-- A class written as a number (R182); a code above 3 does not occur, since a written value is clamped first. -/
def clsAt (n : Nat) : Cls := (clsOf n).getD .stop

/-- A yes/no, OFF/ON or polarity setting as its number. -/
def flagInt (b : Bool) : Int := (yesNo b : Nat)

/-- The value of a setting as READ_ENTRY gives it, the absent mark for an absent Demand identifier; no value for a parameter
number that is no setting (R181, Table 11-3). -/
def Settings.get (x : Settings) : Nat → Option Int
  | 0 => some x.canBitRate
  | 1 => some ((x.demandId.map Int.ofNat).getD (absentMarkInt 4))
  | 2 => some (flagInt x.demandEnable)
  | 3 => some x.cpr
  | 4 => some x.indexPos
  | 5 => some x.slipTol
  | 6 => some x.minSwing
  | 7 => some x.still
  | 8 => some (flagInt x.zoneLimiting)
  | 9 => some (flagInt x.sectorMap)
  | 10 => some x.defaultClass.code
  | 11 => some x.holdClass.code
  | 12 => some x.noAngleClass.code
  | 13 => some x.editTimeout
  | 16 => some x.decel
  | 17 => some x.margin
  | 18 => some x.onGradeBand
  | 19 => some x.floorBand
  | 20 => some x.idleSpeed
  | 21 => some x.runThreshold
  | 22 => some x.autoIdleDelay
  | 23 => some x.shutdownDelay
  | 24 => some x.pilotThreshold
  | 25 => some x.idleTorque
  | 26 => some x.oilStart
  | 27 => some x.oilTorque
  | 28 => some x.ratedPump
  | 29 => some x.lampStretch
  | 30 => some x.statusA.code
  | 31 => some (flagInt x.statusALow)
  | 32 => some x.statusB.code
  | 33 => some (flagInt x.statusBLow)
  | 34 => some x.supplyDown
  | 35 => some x.supplyUp
  | _ => none

/-- The bit rate a written value becomes (01 R1). -/
def bitRateOf (v : Int) : Nat := if v < 500 then 250 else 500

/-- The delay a written value becomes: 0, or `least`..`top` (07 R109). -/
def delayOf (least top : Nat) (v : Int) : Nat := if v ≤ 0 then 0 else clampNat least top v

/-- A threshold clamped and then rounded down to a whole step of 0.5 V (10 R169). -/
def thresholdOf (lo hi : Nat) (v : Int) : Nat := clampNat lo hi v / 5 * 5

/-- The up threshold that stands beside a down threshold (10 R169). -/
def upBeside (down up : Nat) : Nat := if up ≤ down then down + 5 else up

/-- The settings once a value has been written to a parameter number: clamped to its range, with the settings that the write
clamps in turn (01 R1, R12; 02 R18; 04 R53; 05 R72; 06 R90; 07 R109; 09 R157, R158; 10 R169). -/
def Settings.written (x : Settings) (v : Int) : Nat → Settings
  | 0 => { x with canBitRate := bitRateOf v }
  | 1 => { x with demandId := if v = absentMarkInt 4 then none else some (clampNat 0 536870911 v) }
  | 2 => { x with demandEnable := clampNat 0 1 v == 1 }
  | 3 => { x with cpr := clampNat 1000 1000000 v, indexPos := min x.indexPos (clampNat 1000 1000000 v - 1) }
  | 4 => { x with indexPos := clampNat 0 (x.cpr - 1) v }
  | 5 => { x with slipTol := clampNat 0 10000 v }
  | 6 => { x with minSwing := clampNat 0 8192 v }
  | 7 => { x with still := clampNat 0 500 v }
  | 8 => { x with zoneLimiting := clampNat 0 1 v == 1 }
  | 9 => { x with sectorMap := clampNat 0 1 v == 1 }
  | 10 => { x with defaultClass := clsAt (clampNat 0 3 v) }
  | 11 => { x with holdClass := clsAt (clampNat 0 3 v) }
  | 12 => { x with noAngleClass := clsAt (clampNat 0 3 v) }
  | 13 => { x with editTimeout := clampNat 1 60 v }
  | 16 => { x with decel := clampNat 100 20000 v }
  | 17 => { x with margin := clampNat 0 2048 v }
  | 18 => { x with onGradeBand := clampNat 0 500 v }
  | 19 => { x with floorBand := clampNat 0 3000 v }
  | 20 => { x with idleSpeed := clampNat 700 1200 v }
  | 21 => { x with runThreshold := clampNat 300 700 v }
  | 22 => { x with autoIdleDelay := delayOf 2 60 v }
  | 23 => { x with shutdownDelay := delayOf 60 3600 v }
  | 24 => { x with pilotThreshold := clampNat 0 500 v }
  | 25 => { x with idleTorque := clampNat 40 100 v }
  | 26 => { x with oilStart := clampNat 70 110 v }
  | 27 => { x with oilTorque := clampNat 40 100 v }
  | 28 => { x with ratedPump := clampNat 100 450 v }
  | 29 => { x with lampStretch := clampNat 0 3 v }
  | 30 => { x with statusA := statusFunctionOf (clampNat 0 9 v) }
  | 31 => { x with statusALow := clampNat 0 1 v == 1 }
  | 32 => { x with statusB := statusFunctionOf (clampNat 0 9 v) }
  | 33 => { x with statusBLow := clampNat 0 1 v == 1 }
  | 34 => { x with supplyDown := thresholdOf 160 280 v, supplyUp := upBeside (thresholdOf 160 280 v) x.supplyUp }
  | 35 => { x with supplyUp := upBeside x.supplyDown (thresholdOf 165 285 v) }
  | _ => x

/-- Whether a write clamped anything: the value written, or a setting that depends on it (R18, R169, R180; log entry 16). -/
def writeClamped (x x' : Settings) (n : Nat) (v : Int) : Bool :=
  decide (x'.get n ≠ some v) || (n == 3 && x'.indexPos != x.indexPos) || (n == 34 && x'.supplyUp != x.supplyUp)

/-- A write has changed CPR or the index position (02 R19): UNREFERENCED at count 0; a new CPR also empties the gate
accumulator and the run. -/
def Sc.unreferenced (sc : Sc) (newCpr : Bool) : Sc :=
  { sc with
    count := 0, referenced := false, travel := 0
    gateAcc := if newCpr then 0 else sc.gateAcc
    runDir := if newCpr then .none else sc.runDir
    runCount := if newCpr then 0 else sc.runCount }

/-- The Slew Counter takes a write that has changed CPR or the index position (02 R19, R27). -/
def State.scWritten (s : State) (newCpr : Bool) : State :=
  ({ s with sc := s.sc.unreferenced newCpr }).report [.condition noticeSlewUnreferenced true]

/-- The thresholds have changed: running qualifications are judged afresh (10 R169). -/
def State.judgeSupply (s : State) : State :=
  { s with vd := s.vd.judgeSupply s.ret.settings.supplyDown s.ret.settings.supplyUp s.pins.supply }

/-- What a changed setting does at once, `before` being the settings that it replaced. Parameter numbers that are not listed
act when their value is next read. -/
def State.settingChanged (s : State) (before : Settings) : Nat → State
  | 0 => s.busRejoined
  | 1 => s.demandWritten (demandEnabled before)
  | 2 => s.demandWritten (demandEnabled before)
  | 3 => s.scWritten (before.cpr != s.ret.settings.cpr)
  | 4 => s.scWritten false
  | 8 => s.evaluateLimits
  | 9 => s.evaluateLimits
  | 10 => s.evaluateLimits
  | 11 => s.evaluateLimits
  | 12 => s.evaluateLimits
  | 16 => s.evaluateLimits
  | 17 => s.evaluateLimits
  | 18 => s.evaluateGrade
  | 19 => s.evaluateGrade
  | 21 => s.judgeEngine
  | 22 => s.autoIdleWritten before.autoIdleDelay
  | 23 => s.shutdownWritten before.shutdownDelay
  | 24 => s.judgeActivity
  | 25 => s.workOutTorque
  | 26 => s.judgeOil
  | 27 => s.workOutTorque
  | 34 => s.judgeSupply
  | 35 => s.judgeSupply
  | _ => s

/-- The settings become `x` by a write of a parameter number; a write that changes nothing has no effect. -/
def State.applySetting (s : State) (n : Nat) (x : Settings) : State :=
  if x = s.ret.settings then s else (s.setSettings x).settingChanged s.ret.settings n

/-- A value is written to a setting (R181); no parameter number, no write. -/
def State.writeSetting (s : State) (n : Nat) (v : Int) : State × ResultCode × List Byte :=
  match s.ret.settings.get n with
  | none => (s, .badIndex, [])
  | some _ =>
    let x := s.ret.settings.written v n
    (s.applySetting n x, okOr (writeClamped s.ret.settings x n v), indexWritten n)

/-- PUT_ENTRY on SETTINGS (R181). -/
def State.putSetting (s : State) (n : Nat) (payload : List Byte) : State × ResultCode × List Byte :=
  s.writeSetting n (fieldInt payload 0 4)

/-- RETIRE_ENTRY on SETTINGS: a PUT of the default (R181). -/
def State.retireSetting (s : State) (n : Nat) : State × ResultCode × List Byte :=
  match s.writeSetting n ((defaultSettings.get n).getD 0) with
  | (t, result, _) => (t, result, [])

/-- READ_ENTRY on SETTINGS (R181). -/
def State.readSetting (s : State) (n : Nat) : ResultCode × List Byte :=
  match s.ret.settings.get n with
  | none => (.badIndex, [])
  | some v => (.ok, toBeInt 4 v)

end Sys2Proof.Machine
end

