-- ==== Sys2Proof/Machine/Tables.lean ====
section
/-! DEFINITION. READ_ENTRY, PUT_ENTRY, RETIRE_ENTRY and LIST_TABLE over the nine tables (11 R181): the requests on GEOMETRY,
SERVICE_ITEMS, SOURCES, WORK_MODES and VALVE_CHANNELS, and the router. -/

namespace Sys2Proof.Machine

/-! ### GEOMETRY (03 R33 to R37) -/

/-- A dump level brought at least 500 mm above the dig level (R35). -/
def dumpAbove (dig dump : Int) : Int := if dump < dig + 500 then dig + 500 else dump

/-- The dimensions and offsets a payload carries, where each lies within its range (R33, R34). -/
def dimsOf (p : List Byte) : Option Dims :=
  let g : Dims := { fr := fieldInt p 0 2, fz := fieldInt p 2 2, lb := fieldInt p 4 2, ls := fieldInt p 6 2,
                    lk := fieldInt p 8 2, ob := fieldInt p 10 2, os := fieldInt p 12 2, ok := fieldInt p 14 2 }
  if 0 ≤ g.fr ∧ g.fr ≤ 8000 ∧ -2000 ≤ g.fz ∧ g.fz ≤ 10000 ∧ 1000 ≤ g.lb ∧ g.lb ≤ 20000 ∧ 500 ≤ g.ls ∧ g.ls ≤ 12000 ∧
      300 ≤ g.lk ∧ g.lk ≤ 5000 ∧ -8192 ≤ g.ob ∧ g.ob ≤ 8191 ∧ -8192 ≤ g.os ∧ g.os ≤ 8191 ∧ -8192 ≤ g.ok ∧ g.ok ≤ 8191
  then some g else none

/-- The Geometry record a PUT payload gives, and whether R35 clamped its dump level; none where a check of R34 fails. -/
def geometryOf (p : List Byte) : Option (Geometry × Bool) :=
  let dig := fieldInt p 16 2
  let dump := fieldInt p 18 2
  match dimsOf p with
  | some g =>
    if -30000 ≤ dig ∧ dig ≤ 30000 ∧ -30000 ≤ dump ∧ dump ≤ 30000 then
      some ({ dims := some g, dig, dump := dumpAbove dig dump }, decide (dump < dig + 500))
    else none
  | none => none

/-- The Geometry record is replaced: its condition is reported and a pose recomputed (R34, R36, R37, R45). -/
def State.writeGeometry (s : State) (g : Geometry) : State :=
  (({ s with ret := { s.ret with geometry := g } }).report [.condition noticeGeometryUnset g.dims.isNone]).recompute

/-- PUT_ENTRY on GEOMETRY (R34, R35). -/
def State.putGeometry (s : State) (index : Nat) (p : List Byte) : State × ResultCode × List Byte :=
  if index ≠ 0 then (s, .badIndex, [])
  else
    match geometryOf p with
    | none => (s, .badValue, [])
    | some (g, clamped) => (s.writeGeometry g, okOr clamped, indexWritten 0)

/-- RETIRE_ENTRY on GEOMETRY (R36). -/
def State.retireGeometry (s : State) (index : Nat) : State × ResultCode × List Byte :=
  if index ≠ 0 then (s, .badIndex, []) else (s.writeGeometry defaultGeometry, .ok, [])

/-- The code of the record's state: SET 0, UNSET 1 (R33, R182). -/
def Geometry.stateCode (g : Geometry) : Nat := if g.dims.isSome then 0 else 1

/-- READ_ENTRY on GEOMETRY (R36). -/
def State.readGeometry (s : State) (index : Nat) : ResultCode × List Byte :=
  if index ≠ 0 then (.badIndex, [])
  else
    let g := s.ret.geometry
    let f := fun (pick : Dims → Int) => optBeInt 2 (g.dims.map pick)
    (.ok, toBe 1 g.stateCode ++ f Dims.fr ++ f Dims.fz ++ f Dims.lb ++ f Dims.ls ++ f Dims.lk ++ f Dims.ob ++ f Dims.os ++
      f Dims.ok ++ toBeInt 2 g.dig ++ toBeInt 2 g.dump)

/-! ### SERVICE_ITEMS (08 R136 to R143) -/

/-- The item a PUT payload carries, where every field passes the checks of R137; its state, stamp, cycles and times done
are not carried and stand as those of no item. The tag's check fails for the absent mark, 65535, which R182 makes an
out-of-range value (DEDUCED, log entry 34). -/
def itemOf (p : List Byte) : Option Item :=
  match serviceBasisOf (fieldNat p 0 1) with
  | none => none
  | some basis =>
    let it : Item := { state := .counting, basis, interval := fieldNat p 1 4, lead := fieldNat p 5 4, grace := fieldNat p 9 4,
                       stamp := none, cycles := none, timesDone := 0, derate := fieldOpt p 13 1, tag := fieldNat p 14 2 }
    if 1 ≤ it.interval ∧ it.interval ≤ 4000000000 ∧ it.lead ≤ it.interval ∧ it.grace ≤ 4000000000 ∧
        40 ≤ it.derate.getD 40 ∧ it.derate.getD 40 ≤ 100 ∧ it.tag < absentMark 2 then some it
    else none

/-- The item that an accepted PUT leaves (R138 to R140): new in an EMPTY entry, amended on the same basis, restarted on
another. -/
def Item.placed (r : Retained) (old : Option Item) (it : Item) : Item :=
  match old with
  | none => (it.restarted r).evaluated r
  | some o =>
    if o.basis = it.basis then
      ({ it with stamp := o.stamp, cycles := o.cycles, timesDone := o.timesDone }).evaluated r
    else (({ it with timesDone := o.timesDone }).restarted r).evaluated r

/-- PUT_ENTRY on SERVICE_ITEMS (R136 to R140). -/
def State.putItem (s : State) (index : Nat) (p : List Byte) : State × ResultCode × List Byte :=
  if !s.pins.keyAsserted then (s, .locked, [])
  else if 24 ≤ index ∧ index ≠ anyIndex then (s, .badIndex, [])
  else
    match itemOf p, putPlace s.ret.items index with
    | none, _ => (s, .badValue, [])
    | some _, none => (s, .full, [])
    | some it, some i => (s.writeItem i (it.placed s.ret (s.ret.item i)), .ok, indexWritten i)

/-- RETIRE_ENTRY on SERVICE_ITEMS (R136, R142). -/
def State.retireItem (s : State) (index : Nat) : State × ResultCode × List Byte :=
  if !s.pins.keyAsserted then (s, .locked, [])
  else if 24 ≤ index then (s, .badIndex, [])
  else
    match s.ret.item index with
    | none => (s, .empty, [])
    | some it =>
      ((({ s with ret := { s.ret with items := s.ret.items.set index none } }).report [.retirement index]).derateReport
        (it.state == ItemState.critical), .ok, [])

/-- READ_ENTRY on SERVICE_ITEMS (R143). -/
def State.readItem (s : State) (index : Nat) : ResultCode × List Byte :=
  if 24 ≤ index then (.badIndex, [])
  else
    match s.ret.item index with
    | none => (.empty, toBe 1 0)
    | some it =>
      (.ok, toBe 1 it.state.code ++ toBe 1 it.basis.code ++ toBe 4 it.interval ++ toBe 4 it.lead ++ toBe 4 it.grace ++
        optBe 8 it.stamp ++ optBe 8 it.cycles ++ toBe 8 (it.progress s.ret) ++ toBe 2 it.timesDone ++ optBe 1 it.derate ++
        toBe 2 it.tag)

/-- LIST_TABLE on SERVICE_ITEMS (R143): state and basis of each entry, the basis absent for an EMPTY one. -/
def State.listItems (s : State) : List Byte :=
  (List.range 24).flatMap (fun i =>
    toBe 1 (((s.ret.item i).map (fun it => it.state.code)).getD 0) ++ optBe 1 ((s.ret.item i).map (fun it => it.basis.code)))

/-! ### SOURCES (01 R9, R10) -/

/-- The least and the greatest value of a slot's signedness (01 R2). -/
def valueRange (signed : Bool) : Int × Int := if signed then (-32768, 32767) else (0, 65535)

/-- The record a PUT payload gives slot i, where every field passes the checks of R9. -/
def sourceOf (i : Nat) (p : List Byte) : Option SourceRecord :=
  match byteOrderOf (fieldNat p 5 1) with
  | none => none
  | some order =>
    let x : SourceRecord := { identifier := fieldOpt p 0 4, offset := fieldNat p 4 1, order, lo := fieldInt p 6 4,
                              hi := fieldInt p 10 4, timeout := fieldNat p 14 2 }
    let range := valueRange (sourceSigned i)
    if x.identifier.getD 0 ≤ 536870911 ∧ x.offset ≤ 6 ∧ 20 ≤ x.timeout ∧ x.timeout ≤ 2000 ∧
        range.1 ≤ x.lo ∧ x.lo ≤ range.2 ∧ range.1 ≤ x.hi ∧ x.hi ≤ range.2 ∧ x.lo ≤ x.hi then some x
    else none

/-- PUT_ENTRY on SOURCES (R9). -/
def State.putSource (s : State) (index : Nat) (p : List Byte) : State × ResultCode × List Byte :=
  if 8 ≤ index then (s, .badIndex, [])
  else
    match sourceOf index p with
    | none => (s, .badValue, [])
    | some x => (s.writeSource index x, .ok, indexWritten index)

/-- RETIRE_ENTRY on SOURCES (R10). -/
def State.retireSourceEntry (s : State) (index : Nat) : State × ResultCode × List Byte :=
  if 8 ≤ index then (s, .badIndex, []) else (s.retireSource index, .ok, [])

/-- The field "ms since last sample": absent where none has been accepted; a time that does not fit below the absent mark is
a free value (log entry 17). -/
def ageField (now : Nat) (last : Option Nat) : List Byte :=
  match last with
  | none => optBe 4 none
  | some t => if now - t < absentMark 4 then toBe 4 (now - t) else toBe 4 (Config.ageBeyondField (now - t))

/-- READ_ENTRY on SOURCES (R10). -/
def State.readSource (s : State) (index : Nat) : ResultCode × List Byte :=
  if 8 ≤ index then (.badIndex, [])
  else
    let x := s.source index
    let v := s.slot index
    (.ok, optBe 4 x.identifier ++ toBe 1 x.offset ++ toBe 1 x.order.code ++ toBeInt 4 x.lo ++ toBeInt 4 x.hi ++
      toBe 2 x.timeout ++ toBe 1 v.state.code ++ optBeInt 4 v.lastGood ++ ageField s.now v.lastTime)

/-- LIST_TABLE on SOURCES (R10): the state of each slot. -/
def State.listSources (s : State) : List Byte := (List.range 8).flatMap (fun i => toBe 1 (s.slot i).state.code)

/-! ### WORK_MODES (07 R107) -/

/-- The figures a PUT payload gives, clamped. -/
def workModeOf (p : List Byte) : WorkMode :=
  { speed := clampNat 800 2100 (fieldNat p 0 2), torque := clampNat 40 100 (fieldNat p 2 1) }

/-- Whether a figure of the payload was clamped. -/
def workModeClamped (p : List Byte) : Bool :=
  (workModeOf p).speed != fieldNat p 0 2 || (workModeOf p).torque != fieldNat p 2 1

/-- A work mode's figures are replaced; those of the selected mode enter T at once (R107, R118). -/
def State.writeMode (s : State) (i : Nat) (m : WorkMode) : State :=
  let t := { s with ret := { s.ret with modes := s.ret.modes.set i m } }
  if i = s.ret.selectedMode then t.workOutTorque else t

/-- PUT_ENTRY on WORK_MODES (R107). -/
def State.putMode (s : State) (index : Nat) (p : List Byte) : State × ResultCode × List Byte :=
  if 4 ≤ index then (s, .badIndex, [])
  else (s.writeMode index (workModeOf p), okOr (workModeClamped p), indexWritten index)

/-- READ_ENTRY on WORK_MODES (R107). -/
def State.readMode (s : State) (index : Nat) : ResultCode × List Byte :=
  if 4 ≤ index then (.badIndex, [])
  else
    (.ok, toBe 2 (s.ret.mode index).speed ++ toBe 1 (s.ret.mode index).torque ++
      toBe 1 (yesNo (index == s.ret.selectedMode)))

/-- LIST_TABLE on WORK_MODES (R107): the figures of each entry, then the selected index. -/
def State.listModes (s : State) : List Byte :=
  (List.range 4).flatMap (fun i => toBe 2 (s.ret.mode i).speed ++ toBe 1 (s.ret.mode i).torque) ++ toBe 1 s.ret.selectedMode

/-! ### VALVE_CHANNELS (10 R160, R161) -/

/-- Whether a channel has a slow current (R160). -/
def hasSlow (ch : Nat) : Bool := decide (ch < 2)

/-- The configuration a PUT payload gives channel ch, clamped: Imax first, then the currents within it (R160; log entry 20
for the fault mask). -/
def channelOf (ch : Nat) (p : List Byte) : ChannelConfig :=
  let imax := clampNat 100 1500 (fieldNat p 0 2)
  { imax
    start := clampNat 0 imax (fieldNat p 2 2)
    slow := if hasSlow ch then some (clampNat 0 imax (fieldNat p 4 2)) else none
    rampUp := clampNat 1 200 (fieldNat p 6 2)
    rampDown := clampNat 1 200 (fieldNat p 8 2)
    ditherAmp := clampNat 0 200 (fieldNat p 10 2)
    ditherFreq := clampNat 50 250 (fieldNat p 12 2)
    mask := clampNat 0 1 (fieldNat p 14 1) == 1 }

/-- Whether a field of the payload was clamped; a slow current carried for channel 2 or 3 does not count (R160). -/
def channelClamped (ch : Nat) (p : List Byte) : Bool :=
  let c := channelOf ch p
  c.imax != fieldNat p 0 2 || c.start != fieldNat p 2 2 || (hasSlow ch && c.slow != some (fieldNat p 4 2)) ||
    c.rampUp != fieldNat p 6 2 || c.rampDown != fieldNat p 8 2 || c.ditherAmp != fieldNat p 10 2 ||
    c.ditherFreq != fieldNat p 12 2 || decide (1 < fieldNat p 14 1)

/-- The owner hands a channel the target worked out from its new configuration (R161; 05 R84, 06 R101, 07 R119). -/
def State.handBack (s : State) (ch : Nat) : State :=
  match ch with
  | 0 => { s with vd := s.vd.hand 0 (slewTarget (s.ret.config 0) s.slm.record.left) }
  | 1 => { s with vd := s.vd.hand 1 (slewTarget (s.ret.config 1) s.slm.record.right) }
  | 2 =>
    { s with
      gg := { s.gg with floor := restatedFloor s.ret s.gg.floor }
      vd := s.vd.hand 2 (restatedFloor s.ret s.gg.floor).target }
  | 3 => { s with vd := s.vd.hand 3 (torqueTarget (s.ret.config 3).imax s.ec.torque) }
  | _ => s

/-- A channel's configuration is replaced and takes effect at once (R161). -/
def State.writeChannel (s : State) (ch : Nat) (cfg : ChannelConfig) : State :=
  ({ s with ret := { s.ret with configs := s.ret.configs.set ch cfg }, vd := s.vd.applyConfig ch cfg }).handBack ch

/-- PUT_ENTRY on VALVE_CHANNELS (R160, R161). -/
def State.putChannel (s : State) (index : Nat) (p : List Byte) : State × ResultCode × List Byte :=
  if 4 ≤ index then (s, .badIndex, [])
  else (s.writeChannel index (channelOf index p), okOr (channelClamped index p), indexWritten index)

/-- The default configuration of a channel (R160). -/
def defaultConfig (ch : Nat) : ChannelConfig := defaultConfigs.getD ch ⟨0, 0, none, 0, 0, 0, 0, false⟩

/-- RETIRE_ENTRY on VALVE_CHANNELS (R160, R161). -/
def State.retireChannel (s : State) (index : Nat) : State × ResultCode × List Byte :=
  if 4 ≤ index then (s, .badIndex, []) else (s.writeChannel index (defaultConfig index), .ok, [])

/-- READ_ENTRY on VALVE_CHANNELS (R160). -/
def State.readChannel (s : State) (index : Nat) : ResultCode × List Byte :=
  if 4 ≤ index then (.badIndex, [])
  else
    let c := s.ret.config index
    (.ok, toBe 2 c.imax ++ toBe 2 c.start ++ optBe 2 c.slow ++ toBe 2 c.rampUp ++ toBe 2 c.rampDown ++ toBe 2 c.ditherAmp ++
      toBe 2 c.ditherFreq ++ toBe 1 (yesNo c.mask))

/-- LIST_TABLE on VALVE_CHANNELS (R160): state and fault kind of each channel. -/
def State.listChannels (s : State) : List Byte :=
  (List.range 4).flatMap (fun ch => toBe 1 (s.vd.chan ch).state.code ++ optBe 1 ((s.vd.chan ch).fault.map FaultKind.code))

/-! ### The router -/

/-- The payload length of a PUT_ENTRY on each table (Table 11-4). -/
def putLength : Nat → Nat
  | 1 => 13
  | 2 => 2
  | 3 => 14
  | 4 => 16
  | 5 => 16
  | 6 => 3
  | 7 => 15
  | 8 => 20
  | _ => 4

/-- The link's checks of a request on a table (R179): the table code, and the payload length of a PUT. -/
def tableRefused (table : Nat) : Bool := decide (table < 1) || decide (9 < table)

/-- PUT_ENTRY (R179, R181). -/
def State.putEntry (s : State) (table index : Nat) (p : List Byte) : State × ResultCode × List Byte :=
  if tableRefused table then (s, .badTable, [])
  else if p.length ≠ putLength table then (s, .badRequest, [])
  else
    match table with
    | 1 => s.putZone index p
    | 2 => s.putSector index p
    | 3 => s.putSurface index p
    | 4 => s.putItem index p
    | 5 => s.putSource index p
    | 6 => s.putMode index p
    | 7 => s.putChannel index p
    | 8 => s.putGeometry index p
    | _ => s.putSetting index p

/-- RETIRE_ENTRY (R179, R181); WORK_MODES does not take it (07 R107). -/
def State.retireEntry (s : State) (table index : Nat) : State × ResultCode × List Byte :=
  if tableRefused table then (s, .badTable, [])
  else
    match table with
    | 1 => s.retireZone index
    | 2 => s.retireSector index
    | 3 => s.retireSurface index
    | 4 => s.retireItem index
    | 5 => s.retireSourceEntry index
    | 6 => (s, .badTable, [])
    | 7 => s.retireChannel index
    | 8 => s.retireGeometry index
    | _ => s.retireSetting index

/-- READ_ENTRY (R179, R181): result and payload. -/
def State.readEntry (s : State) (table index : Nat) : ResultCode × List Byte :=
  if tableRefused table then (.badTable, [])
  else
    match table with
    | 1 => s.readZone index
    | 2 => s.readSector index
    | 3 => s.readSurface index
    | 4 => s.readItem index
    | 5 => s.readSource index
    | 6 => s.readMode index
    | 7 => s.readChannel index
    | 8 => s.readGeometry index
    | _ => s.readSetting index

/-- LIST_TABLE (R179, R181); SETTINGS has no list. -/
def State.listTable (s : State) (table : Nat) : ResultCode × List Byte :=
  match table with
  | 1 => (.ok, s.listZones)
  | 2 => (.ok, s.listSectors)
  | 3 => (.ok, s.listSurfaces)
  | 4 => (.ok, s.listItems)
  | 5 => (.ok, s.listSources)
  | 6 => (.ok, s.listModes)
  | 7 => (.ok, s.listChannels)
  | 8 => (.ok, toBe 1 s.ret.geometry.stateCode)
  | _ => (.badTable, [])

/-- Meaning of READ_ENTRY (R181): its response is formed at RESPONSE_READY (R178). -/
def execReadEntry (table index : Byte) (s : State) : Result :=
  s.commit (fun s => s.ask (.entry table.toNat index.toNat))

/-- Meaning of PUT_ENTRY (R181). -/
def execPutEntry (table index : Byte) (payload : List Byte) (s : State) : Result :=
  s.commit (fun s =>
    match s.putEntry table.toNat index.toNat payload with
    | (t, result, answer) => t.answer 2 result answer)

/-- Meaning of RETIRE_ENTRY (R181). -/
def execRetireEntry (table index : Byte) (s : State) : Result :=
  s.commit (fun s =>
    match s.retireEntry table.toNat index.toNat with
    | (t, result, answer) => t.answer 3 result answer)

/-- Meaning of LIST_TABLE (R181): its response is formed at RESPONSE_READY (R178). -/
def execListTable (table : Byte) (s : State) : Result :=
  s.commit (fun s => s.ask (.list table.toNat))

end Sys2Proof.Machine
end

