-- ==== Sys2Proof/Machine/Notices.lean ====
section
/-! DEFINITION. The Notice Unit's requests and lamp timers (chapter 9). -/

namespace Sys2Proof.Machine

/-- The lamp stretch time in force, ms (R157). -/
def Settings.stretchMs (x : Settings) : Nat := x.lampStretch * 1000

/-- The Notice Unit is replaced. -/
def State.setNu (s : State) (nu : Nu) : State := { s with nu := nu }

/-- ACK_HEAD (R153). -/
def State.ackHead (s : State) : State × ResultCode :=
  match s.nu.list with
  | [] => (s, .empty)
  | n :: _ => (s.setNu (s.nu.ackOne s.ret.settings.stretchMs n), .ok)

/-- ACK_NOTICE (R153). -/
def State.ackNotice (s : State) (n : Nat) : State × ResultCode :=
  if noticeCount ≤ n then (s, .badIndex)
  else if isRaised s.nu.notices n then (s.setNu (s.nu.ackOne s.ret.settings.stretchMs n), .ok)
  else (s, .state)

/-- Meaning of ACK_HEAD (R153). -/
def execAckHead (s : State) : Result := s.commit (fun s => s.ackHead.1.answer 10 s.ackHead.2 [])

/-- Meaning of ACK_NOTICE (R153). -/
def execAckNotice (number : Byte) (s : State) : Result :=
  s.commit (fun s => (s.ackNotice number.toNat).1.answer 11 (s.ackNotice number.toNat).2 [])

/-- Meaning of ACK_ALL (R153). -/
def execAckAll (s : State) : Result :=
  s.commit (fun s => (s.setNu (s.nu.ackEvery s.ret.settings.stretchMs)).answer 12 .ok [])

/-- The raised count (R152). -/
def Nu.raisedCount (nu : Nu) : Nat := (raisedNumbers nu.notices).length

/-- The acked count (R152). -/
def Nu.ackedCount (nu : Nu) : Nat := (ackedNumbers nu.notices).length

/-- One entry of READ_NOTICES: catalogue number and state, both absent past the last entry (Table 11-5; log entry 15). -/
def Nu.listEntry (nu : Nu) (place : Nat) : List Byte :=
  optBe 1 nu.list[place]? ++ optBe 1 (nu.list[place]?.map (fun n => (noticeAt nu.notices n).state.code))

/-- The payload of READ_NOTICES (R155, Table 11-5). -/
def Nu.payload (nu : Nu) : List Byte :=
  (List.range Config.listPlaces).flatMap nu.listEntry ++
    toBe 1 nu.list.length ++ toBe 1 nu.raisedCount ++ toBe 1 nu.ackedCount ++ toBe 1 (yesNo nu.changed)

/-- Meaning of READ_NOTICES (R155): the notices are returned, and the change flag cleared, when its response is prepared. -/
def execReadNotices (s : State) : Result := s.commit (fun s => s.ask .notices)

/-! ### Lamp timers (R156) -/

/-- A lamp controller. -/
def Nu.lamp (nu : Nu) : Lamp → LampState
  | .red => nu.red
  | .amber => nu.amber

/-- A lamp controller is replaced. -/
def Nu.setLamp (nu : Nu) (which : Lamp) (l : LampState) : Nu :=
  match which with
  | .red => { nu with red := l }
  | .amber => { nu with amber := l }

/-- A phase of a flashing lamp ends: lit becomes dark, dark becomes lit, for 500 ms (R156). -/
def LampState.flashed (l : LampState) : LampState := { l with lit := !l.lit, flash := some Config.flashPhase }

/-- The stretch time has run out: OFF, dark (R156). -/
def LampState.stretched : LampState := { mode := .off, lit := false, flash := none, stretch := none }

/-- Meaning of FLASH_TIMER_EXPIRY (R156). -/
def execFlashTimerExpiry (lamp : Lamp) (s : State) : Result :=
  s.commit (fun s => s.expire (s.nu.lamp lamp).flash (fun s => s.setNu (s.nu.setLamp lamp (s.nu.lamp lamp).flashed)))

/-- Meaning of STRETCH_TIMER_EXPIRY (R156). -/
def execStretchTimerExpiry (lamp : Lamp) (s : State) : Result :=
  s.commit (fun s => s.expire (s.nu.lamp lamp).stretch (fun s => s.setNu (s.nu.setLamp lamp LampState.stretched)))

end Sys2Proof.Machine
end

