-- ==== Sys2Proof/Machine/Valves.lean ====
section
/-! DEFINITION. The Valve Drive's events and requests (chapter 10). -/

namespace Sys2Proof.Machine

/-! ### The ramp interval (R163, R166) -/

/-- The commanded current after a ramp expiry (R163). -/
def commandedNext (cfg : ChannelConfig) (supplyLow : Bool) (c : Channel) (effective : Nat) : Nat :=
  if supplyLow || c.fault.isSome then 0 else rampNext cfg c.commanded effective

/-- The current sensed in the last 20 ms, latest first, once an interval has ended: since a reset, where that is less than
20 ms ago (R164, R174). -/
def Channel.window (c : Channel) (sensed : List Nat) : List Nat := (sensed ++ c.sensed).take Config.sensedWindow

/-- The mean of sensed currents, mA (R164). Where it is no whole number, whether it is rounded up is a free value (log
entry 12); nothing sensed gives 0, as after a reset (R174). -/
def meanOf (currents : List Nat) : Nat :=
  let q := currents.sum / currents.length
  if currents.sum % currents.length = 0 then q
  else if Config.meanRoundsUp currents.sum currents.length then q + 1 else q

/-- A channel after a ramp expiry, before a fault is taken: the commanded current set (R163), the measured average refreshed
(R164), both qualifications counted on (R166), the timer restarted. A FAULTED channel checks no fault. -/
def Channel.ramped (cfg : ChannelConfig) (supplyLow : Bool) (effective now : Nat) (sensed : List Nat) (c : Channel) : Channel :=
  let current := commandedNext cfg supplyLow c effective
  let changed := current != c.commanded
  let measured := meanOf (c.window sensed)
  { (c.command now current) with
    measured := measured
    sensed := c.window sensed
    ramp := some Config.rampInterval
    openQual := if c.fault.isSome then 0 else qualify (openLoadFound cfg current measured) changed c.openQual
    reachQual := if c.fault.isSome then 0 else qualify (notReachedFound current effective measured) changed c.reachQual }

/-- The fault that a ramp expiry completes, if any: OPEN_LOAD before NOT_REACHED (R166). -/
def Channel.faultDue (c : Channel) : Option FaultKind :=
  if c.fault.isSome then none
  else if Config.openLoadExpiries ≤ c.openQual then some .openLoad
  else if Config.notReachedExpiries ≤ c.reachQual then some .notReached
  else none

/-- A channel's ramp interval timer runs out (R163, R166, R167). -/
def State.rampExpires (s : State) (ch : Nat) (sensed : List Nat) : State :=
  let c := (s.vd.chan ch).ramped (s.ret.config ch) s.vd.supplyLow (effectiveTarget s.ret s.vd ch) s.now sensed
  let t := { s with vd := s.vd.setChan ch c }
  match c.faultDue with
  | some kind => t.takeFault ch kind
  | none => t

/-- Meaning of RAMP_INTERVAL_EXPIRY (R163). -/
def execRampIntervalExpiry (channel : Fin 4) (sensed : List Nat) (s : State) : Result :=
  s.commit (fun s => s.expire (s.vd.chan channel.val).ramp (fun s => s.rampExpires channel.val sensed))

/-- Whether a sensed current is an over-current of a channel (R166). -/
def overCurrentFound (cfg : ChannelConfig) (c : Channel) (sensed : Nat) : Bool :=
  c.fault.isNone && decide (cfg.imax + 300 < sensed)

/-- Meaning of OVER_CURRENT (R166, R167): taken at once in OFF and ACTIVE; a current that is no over-current, and one sensed
on a FAULTED channel, do nothing. -/
def execOverCurrent (channel : Fin 4) (sensed : Nat) (s : State) : Result :=
  s.commit (fun s =>
    if overCurrentFound (s.ret.config channel.val) (s.vd.chan channel.val) sensed then s.takeFault channel.val .overCurrent
    else s)

/-! ### The supply (R168) -/

/-- Meaning of SUPPLY_VOLTAGE_CHANGE (R168): the voltage is measured and the qualifications judged. -/
def execSupplyVoltageChange (voltage : Nat) (s : State) : Result :=
  s.commitPins { s.pins with supply := voltage } State.judgeSupply

/-- The supply becomes LOW (R168): every channel off at once, its qualifications over; the up qualification is judged. -/
def State.supplyFalls (s : State) : State :=
  (({ s with vd := { s.vd with supplyLow := true, downQual := none, chans := s.vd.chans.map Channel.switchOff } }).report
    [.condition noticeSupplyLow true]).judgeSupply

/-- The supply becomes NORMAL (R168). -/
def State.supplyRises (s : State) : State :=
  (({ s with vd := { s.vd with supplyLow := false, upQual := none } }).report [.condition noticeSupplyLow false]).judgeSupply

/-- Meaning of DOWN_QUALIFICATION_EXPIRY (R168). -/
def execDownQualificationExpiry (s : State) : Result := s.commit (fun s => s.expire s.vd.downQual State.supplyFalls)

/-- Meaning of UP_QUALIFICATION_EXPIRY (R168). -/
def execUpQualificationExpiry (s : State) : Result := s.commit (fun s => s.expire s.vd.upQual State.supplyRises)

/-! ### Clearing a fault (R167) -/

/-- A FAULTED channel is cleared: OFF, no fault kind (R167). -/
def Channel.cleared (c : Channel) : Channel := { c with fault := none }

/-- CLEAR_VALVE_FAULT (R167). -/
def State.clearValveFault (s : State) (ch : Nat) : State × ResultCode :=
  if 4 ≤ ch then (s, .badIndex)
  else if (s.vd.chan ch).fault.isNone then (s, .state)
  else
    (({ s with vd := s.vd.setChan ch (s.vd.chan ch).cleared }).report [.condition (noticeValveFault ch) false], .ok)

/-- Meaning of CLEAR_VALVE_FAULT (R167). -/
def execClearValveFault (channel : Byte) (s : State) : Result :=
  s.commit (fun s => (s.clearValveFault channel.toNat).1.answer 20 (s.clearValveFault channel.toNat).2 [])

/-! ### Drive test (R171, R172) -/

/-- A drive test starts, replacing any other (R171). -/
def Vd.startTest (v : Vd) (ch current duration : Nat) : Vd :=
  { v with test := some { channel := ch, current }, duration := some duration }

/-- DRIVE_TEST (R171). -/
def State.driveTest (s : State) (ch current duration : Nat) : State × ResultCode :=
  if !s.pins.keyAsserted then (s, .locked)
  else if 4 ≤ ch then (s, .badIndex)
  else if !s.ec.state.allowsTest then (s, .state)
  else if (s.vd.chan ch).fault.isSome then (s, .state)
  else
    let amps := clampNat 0 (s.ret.config ch).imax current
    let time := clampNat 1 5000 duration
    ({ s with vd := s.vd.startTest ch amps time }, okOr (amps != current || time != duration))

/-- Meaning of DRIVE_TEST (R171). -/
def execDriveTest (channel : Byte) (current duration : BitVec 16) (s : State) : Result :=
  s.commit (fun s =>
    match s.driveTest channel.toNat current.toNat duration.toNat with
    | (t, result) => t.answer 21 result [])

/-- DRIVE_TEST_STOP (R172). -/
def State.driveTestStop (s : State) : State × ResultCode :=
  if s.vd.test.isSome then ({ s with vd := s.vd.endTest }, .ok) else (s, .state)

/-- Meaning of DRIVE_TEST_STOP (R172). -/
def execDriveTestStop (s : State) : Result :=
  s.commit (fun s => s.driveTestStop.1.answer 22 s.driveTestStop.2 [])

/-- Meaning of DURATION_TIMER_EXPIRY (R172). -/
def execDurationTimerExpiry (s : State) : Result :=
  s.commit (fun s => s.expire s.vd.duration (fun s => { s with vd := s.vd.endTest }))

end Sys2Proof.Machine
end

