-- ==== Sys2Proof/Machine/Reads.lean ====
section
/-! DEFINITION. The read requests that name no table (11 Table 11-5). Each returns what the blocks hold when its response is
prepared (R178) and changes nothing before. -/

namespace Sys2Proof.Machine

/-- The payload of READ_POSE (03 R43, Table 11-5). -/
def State.posePayload (s : State) : List Byte :=
  let p := s.pu.pose
  toBe 2 p.seq ++ toBe 1 p.quality.code ++ optBe 2 p.phi ++ toBeInt 2 p.omega ++ optBeInt 4 p.r ++ optBeInt 4 p.z ++
    optBeInt 4 p.x ++ optBeInt 4 p.y ++ toBe 4 s.sc.count ++ toBe 1 (yesNo s.sc.referenced) ++ toBe 4 s.sc.travel

/-- Meaning of READ_POSE (03 R43). -/
def execReadPose (s : State) : Result := s.commit (fun s => s.ask .pose)

/-- The payload of READ_GUIDANCE (06 R103, Table 11-5). -/
def State.guidancePayload (s : State) : List Byte :=
  let g := s.gg.guidance
  let f := s.gg.floor
  toBe 2 g.seq ++ toBe 1 (g.target.getD targetNone) ++ toBe 1 g.state.code ++ optBeInt 4 g.d ++ toBe 1 f.state.code ++
    optBe 1 (f.held.map FloorState.code) ++ optBe 1 f.index ++ optBeInt 4 f.dF ++ optBe 2 f.band ++ toBe 2 f.target

/-- Meaning of READ_GUIDANCE (06 R103). -/
def execReadGuidance (s : State) : Result := s.commit (fun s => s.ask .guidance)

/-- The indexes of the engaged zones. DESIGN CHOICE: READ_LIMITS lists them by ascending index, an order that the spec does
not give (05 R86; log entry 35). -/
def State.engagedZones (s : State) : List Nat := (List.range 12).filter (fun i => s.zt.engaged.getD i false)

/-- The tag of a zone entry; 0 for an EMPTY one, which is never engaged (04 R68). -/
def Retained.zoneTag (r : Retained) (i : Nat) : Nat := ((r.zones.getD i none).map Zone.tag).getD 0

/-- The payload of READ_LIMITS (05 R86, Table 11-5). -/
def State.limitsPayload (s : State) : List Byte :=
  let r := s.slm.record
  toBe 2 r.seq ++ toBe 1 r.basis.code ++ optBe 1 (r.governing.map Cls.code) ++ toBe 1 r.left.code ++ toBe 1 r.right.code ++
    optBe 2 r.leftLength ++ optBe 2 r.rightLength ++ optBe 1 (r.leftClass.map Cls.code) ++
    optBe 1 (r.rightClass.map Cls.code) ++ optBe 2 r.leftEscape ++ optBe 2 r.rightEscape ++ toBe 1 (yesNo s.zt.isOpen) ++
    toBe 1 s.gg.floor.state.code ++ toBe 1 s.engagedZones.length ++
    s.engagedZones.flatMap (fun i => toBe 1 i ++ toBe 2 (s.ret.zoneTag i))

/-- Meaning of READ_LIMITS (05 R86). -/
def execReadLimits (s : State) : Result := s.commit (fun s => s.ask .limits)

/-- The flags of the Demand content, as byte 3 of the Demand frame (07 R116). -/
def EconomyState.flags : EconomyState → Nat
  | .idling => 1
  | .shutdownRequested => 2
  | .stopped => 0
  | .working => 0
  | .settling => 0

/-- The payload of READ_ECONOMY (07 R125, Table 11-5). -/
def State.economyPayload (s : State) : List Byte :=
  toBe 1 s.ec.state.code ++ toBe 1 s.ret.selectedMode ++ toBe 1 (yesNo s.ec.active) ++ toBe 2 (speedDemand s.ret s.ec.state) ++
    toBe 1 s.ec.torque ++ toBe 1 s.ec.state.flags ++ toBe 1 (yesNo s.ec.oilLatch) ++ toBe 1 s.ec.torque ++
    toBe 2 (s.vd.chan 3).owner ++ toBe 4 s.ret.engineMeter ++ toBe 8 s.ret.weightedMeter ++ toBe 2 s.ec.partialMs ++
    toBe 4 s.ret.shift.idle ++ toBe 4 s.ret.shift.light ++ toBe 4 s.ret.shift.normal ++ toBe 4 s.ret.shift.heavy ++
    toBe 4 s.ret.shift.fuel

/-- Meaning of READ_ECONOMY (07 R125). -/
def execReadEconomy (s : State) : Result := s.commit (fun s => s.ask .economy)

/-- One channel's part of READ_DRIVE (10 R173, Table 11-5). -/
def State.channelPayload (s : State) (ch : Nat) : List Byte :=
  let c := s.vd.chan ch
  toBe 2 c.owner ++ optBe 2 (s.vd.testTarget ch) ++ toBe 2 (effectiveTarget s.ret s.vd ch) ++ toBe 2 c.commanded ++
    toBe 2 c.measured ++ toBe 1 c.state.code ++ optBe 1 (c.fault.map FaultKind.code)

/-- The code of the supply state: LOW 0, NORMAL 1 (10 R168, log entry 14). -/
def Vd.supplyCode (v : Vd) : Nat := if v.supplyLow then 0 else 1

/-- The payload of READ_DRIVE (10 R173, Table 11-5). -/
def State.drivePayload (s : State) : List Byte :=
  (List.range 4).flatMap s.channelPayload ++ toBe 1 s.vd.supplyCode ++ toBe 2 s.pins.supply ++
    optBe 1 (s.vd.test.map DriveTest.channel) ++ optBe 2 (s.vd.test.map DriveTest.current) ++ optBe 2 s.vd.duration

/-- Meaning of READ_DRIVE (10 R173). -/
def execReadDrive (s : State) : Result := s.commit (fun s => s.ask .drive)

end Sys2Proof.Machine
end

