-- ==== Sys2Proof/Machine/Responses.lean ====
section
/-! DEFINITION. The response of the Controller Link (11 R178): its content, formed when it is prepared, its frame, and
RESPONSE_READY. -/

namespace Sys2Proof.Machine

/-- The request code of a read (11 Table 11-2). -/
def ReadRequest.code : ReadRequest → Nat
  | .entry _ _ => 1
  | .list _ => 4
  | .notices => 13
  | .pose => 14
  | .guidance => 15
  | .limits => 16
  | .economy => 17
  | .drive => 19

/-- What a read returns as the state stands (R178, R181; Tables 11-4 and 11-5): result and payload. -/
def State.readNow (s : State) : ReadRequest → ResultCode × List Byte
  | .entry table index => s.readEntry table index
  | .list table => s.listTable table
  | .notices => (.ok, s.nu.payload)
  | .pose => (.ok, s.posePayload)
  | .guidance => (.ok, s.guidancePayload)
  | .limits => (.ok, s.limitsPayload)
  | .economy => (.ok, s.economyPayload)
  | .drive => (.ok, s.drivePayload)

/-- The flags byte of a response: OVERLAP in bit 0, NOTICES_CHANGED in bit 1 (R178). -/
def responseFlags (overlap changed : Bool) : Nat := yesNo overlap + 2 * yesNo changed

/-- A response frame (R178, Table 11-2). -/
def responseFrame (code : Nat) (result : ResultCode) (payload : List Byte) (overlap changed : Bool) : List Byte :=
  [BitVec.ofNat 8 code, BitVec.ofNat 8 result.code, BitVec.ofNat 8 (responseFlags overlap changed),
   BitVec.ofNat 8 payload.length] ++ payload

/-- The response to an answer, prepared now (R178). -/
def State.responseTo (s : State) : Answer → List Byte
  | .done code result payload => responseFrame code result payload s.link.overlap s.nu.changed
  | .read q => responseFrame q.code (s.readNow q).1 (s.readNow q).2 s.link.overlap s.nu.changed

/-- The change flag once a response has been prepared: READ_NOTICES clears it (09 R155). -/
def changedAfter (changed : Bool) : Answer → Bool
  | .read .notices => false
  | _ => changed

/-- The response to the request taken is prepared once its owner has finished, and the link becomes READY (R178). -/
def State.prepare (s : State) : State :=
  match s.link.state, s.link.answer with
  | .working, some a =>
    { s with
      link := { s.link with state := .ready, request := none, answer := none, response := some (s.responseTo a) }
      nu := { s.nu with changed := changedAfter s.nu.changed a } }
  | _, _ => s

/-- Meaning of RESPONSE_READY (R178). -/
def execResponseReady (s : State) : Result := s.commit State.prepare

end Sys2Proof.Machine
end

