-- ==== Sys2Proof/Machine/Flags.lean ====
section
/-! DEFINITION. The levels at the output pins, each a function of the state: READY, ATTN, FAULT_N, the lamps, the status
lines, the valve outputs (05 R83, 09 R152 to R159, 10 R164 and R170, 11 R177). True is a high level, or asserted for READY
and ATTN. -/

namespace Sys2Proof.Machine

/-- READY (11 R177). While the part does not run the spec gives it no level, and it is a free value (log entry 36). -/
def State.readyLine (s : State) : Bool :=
  match s.phase with
  | .running => s.link.state == .ready
  | _ => Config.readyNotRunning s.now

/-- ATTN (09 R152, R159). -/
def State.attnLine (s : State) : Bool := s.phase == .running && s.nu.changed

/-- FAULT_N (10 R170): low while the supply is LOW or an unmasked channel is FAULTED, and while the part does not run. -/
def State.faultN (s : State) : Bool :=
  s.phase == .running && !s.vd.supplyLow &&
    (List.range 4).all (fun ch => (s.vd.chan ch).fault.isNone || (s.ret.config ch).mask)

/-- The light of a lamp controller (09 R156): lit while STEADY or in STRETCH and in the lit phases of FLASHING. -/
def LampState.light (l : LampState) : Bool :=
  match l.mode with
  | .off => false
  | .flashing => l.lit
  | .steady => true
  | .stretch => true

/-- LAMP_RED (09 R156, R159). -/
def State.lampRed (s : State) : Bool := s.phase == .running && s.nu.red.light

/-- LAMP_AMBER (09 R156, R159). -/
def State.lampAmber (s : State) : Bool := s.phase == .running && s.nu.amber.light

/-- Whether a service item is DUE, OVERDUE or CRITICAL (09 R158). -/
def anyServiceDue (items : List (Option Item)) : Bool :=
  items.any (fun e => match e with
    | some it => it.state != .counting
    | none => false)

/-- Whether a status function is active (09 R158). -/
def State.functionActive (s : State) : StatusFunction → Bool
  | .none => false
  | .slewBlocked => s.slm.record.left == .blocked || s.slm.record.right == .blocked
  | .slewRestricted => s.slm.record.left != .opened || s.slm.record.right != .opened
  | .floorReached => s.gg.floor.state == .atFloor
  | .onGrade => s.gg.guidance.state == .onGrade
  | .autoIdle => s.ec.state == .idling
  | .shutdownRequested => s.ec.state == .shutdownRequested
  | .anyRed => anyRaised s.nu.notices .red || anyAcked s.nu.notices .red
  | .anyService => anyServiceDue s.ret.items
  | .valveFaultAny => s.vd.chans.any (fun c => c.fault.isSome)

/-- STATUS_A (09 R158, R159): high when active, or when inactive with ACTIVE_LOW; low while the part does not run. -/
def State.statusA (s : State) : Bool :=
  s.phase == .running && (s.functionActive s.ret.settings.statusA != s.ret.settings.statusALow)

/-- STATUS_B (09 R158, R159). -/
def State.statusB (s : State) : Bool :=
  s.phase == .running && (s.functionActive s.ret.settings.statusB != s.ret.settings.statusBLow)

/-- The level of VOUTn, in thousandths of a mA (10 R164). While the part does not run no rule gives it a level, and it is a
free value (log entry 36). -/
def State.valveOutput (s : State) (ch : Nat) : Nat :=
  match s.phase with
  | .running => outputAt (s.ret.config ch) (s.vd.chan ch) s.now
  | _ => Config.outputNotRunning s.now ch

/-- The byte at a place of the present transaction on SDO (11 R175): the waiting response and then zero bytes, or filler.
While the part does not run the spec says nothing of SDO, and it is a free value (log entry 36). -/
def State.sdoByte (s : State) (place : Nat) : Byte :=
  match s.phase, s.link.transaction with
  | .running, some t => t.sdo.getD place 0
  | .running, none => 0
  | _, _ => Config.sdoNotRunning s.now place

end Sys2Proof.Machine
end

