-- ==== Sys2Proof/Machine/Link.lean ====
section
/-! DEFINITION. The Controller Link (11 R175 to R179): transactions, frames, link states, the link's own checks, and which
command a request frame spells. The response stands in Machine/Responses.lean. -/

namespace Sys2Proof.Machine

/-! ### Frames (R176, R179) -/

/-- The bytes of a transaction hold a request (R176). -/
def holdsRequest (bytes : List Byte) : Bool := !bytes.isEmpty && bytes.getD 0 0 != 0

/-- The payload length byte of a frame. -/
def payloadLength (bytes : List Byte) : Nat := (bytes.getD 3 0).toNat

/-- A request is a well-formed frame (R176). -/
def frameWellFormed (bytes : List Byte) : Bool :=
  decide (4 ≤ bytes.length) && decide (payloadLength bytes ≤ 60) && decide (4 + payloadLength bytes ≤ bytes.length) &&
    decide (bytes.length ≤ 64) && (bytes.drop (4 + payloadLength bytes)).all (· == 0)

/-- READ_ENTRY, PUT_ENTRY, RETIRE_ENTRY and LIST_TABLE carry a table code (R181). -/
def carriesTable (code : Nat) : Bool := decide (1 ≤ code) && decide (code ≤ 4)

/-- The payload length of a request (Table 11-5). -/
def requestLength (code table : Nat) : Nat := if code = 2 then putLength table else if code = 21 then 4 else 0

/-- The link's checks of a well-formed request, in the order of R179; none where all pass. -/
def linkCheck (code table n : Nat) : Option ResultCode :=
  if code < 1 ∨ 24 < code then some .badRequest
  else if carriesTable code && tableRefused table then some .badTable
  else if code = 4 ∧ table = 9 then some .badTable
  else if n ≠ requestLength code table then some .badRequest
  else none

/-- What the link itself answers to a request taken, if anything (R176, R179). -/
def linkAnswer (bytes : List Byte) : Option Answer :=
  let code := (bytes.getD 0 0).toNat
  if !frameWellFormed bytes then some (.done code .badFrame [])
  else (linkCheck code (bytes.getD 1 0).toNat (payloadLength bytes)).map (fun result => .done code result [])

/-- A 16-bit field of a payload. -/
def word16 (p : List Byte) (offset : Nat) : BitVec 16 := BitVec.ofNat 16 (fieldNat p offset 2)

/-- The command that a request frame spells (Table 11-2), for a frame that the link's checks let through. -/
def commandOf (bytes : List Byte) : Option Instr :=
  let table := bytes.getD 1 0
  let index := bytes.getD 2 0
  let payload := (bytes.drop 4).take (payloadLength bytes)
  if (linkAnswer bytes).isSome then none
  else
    match (bytes.getD 0 0).toNat with
    | 1 => some (.readEntry table index)
    | 2 => some (.putEntry table index payload)
    | 3 => some (.retireEntry table index)
    | 4 => some (.listTable table)
    | 5 => some .openZones
    | 6 => some .closeZones
    | 7 => some (.selectTarget index)
    | 8 => some (.setWorkMode index)
    | 9 => some (.serviceDone index)
    | 10 => some .ackHead
    | 11 => some (.ackNotice index)
    | 12 => some .ackAll
    | 13 => some .readNotices
    | 14 => some .readPose
    | 15 => some .readGuidance
    | 16 => some .readLimits
    | 17 => some .readEconomy
    | 18 => some .clearShift
    | 19 => some .readDrive
    | 20 => some (.clearValveFault index)
    | 21 => some (.driveTest index (word16 payload 0) (word16 payload 2))
    | 22 => some .driveTestStop
    | 23 => some .clearRetained
    | 24 => some .restart
    | _ => none

/-! ### Transactions (R175, R177) -/

/-- A request is taken (R177): WORKING, OVERLAP cleared, any response consumed; a request that the link itself refuses is
answered there. -/
def Link.takeRequest (l : Link) (bytes : List Byte) : Link :=
  { l with state := .working, overlap := false, request := some bytes, answer := linkAnswer bytes, response := none }

/-- OVERLAP is set in a waiting response (R177). -/
def markOverlap (response : List Byte) : List Byte := response.set 2 (response.getD 2 0 ||| 1)

/-- A request is discarded (R177): OVERLAP, in the waiting response too. -/
def Link.discardRequest (l : Link) : Link := { l with overlap := true, response := l.response.map markOverlap }

/-- The waiting response has been consumed by a transaction that began in READY (R177). -/
def Link.consumed (l : Link) (t : Transaction) (bytes : List Byte) : Bool :=
  t.beganReady && decide ((l.response.getD []).length ≤ bytes.length)

/-- The end of a transaction is judged (R177). -/
def Link.judged (l : Link) (t : Transaction) (bytes : List Byte) : Link :=
  match l.state with
  | .idle => if holdsRequest bytes then l.takeRequest bytes else l
  | .working => if holdsRequest bytes then l.discardRequest else l
  | .ready =>
    if l.consumed t bytes then
      (if holdsRequest bytes then l.takeRequest bytes else { l with state := .idle, response := none })
    else if holdsRequest bytes then l.discardRequest
    else l

/-- A transaction begins (R175): what SDO carries is fixed. -/
def Link.begin (l : Link) : Link :=
  { l with transaction := some { beganReady := l.state == .ready,
                                 sdo := if l.state = .ready then l.response.getD [] else [] } }

/-- Meaning of TRANSACTION_START (R175): CS_N falls from high. -/
def execTransactionStart (s : State) : Result :=
  s.commitPins { s.pins with csLow := true } (fun t => if s.pins.csLow then t else { t with link := t.link.begin })

/-- The transaction under way ends (R177); where a reset has cut it, or it began while the part took none, it is ignored
(R185). -/
def Link.finish (l : Link) (bytes : List Byte) : Link :=
  match l.transaction with
  | none => l
  | some t => { l.judged t bytes with transaction := none }

/-- Meaning of TRANSACTION_END (R177). -/
def execTransactionEnd (sdi : List Byte) (s : State) : Result :=
  s.commitPins { s.pins with csLow := false } (fun t => { t with link := t.link.finish sdi })

end Sys2Proof.Machine
end

