-- ==== Sys2Proof/Machine/Retained.lean ====
section
/-! DEFINITION. The Retained Memory, the resets and CLEAR_RETAINED (11 R183 to R186). -/

namespace Sys2Proof.Machine

/-! ### The start of every block -/

/-- A slot's volatile fields after every reset (01 R11). -/
def startSlot (x : SourceRecord) : SourceSlot :=
  if x.identifier.isSome then { state := .never, lastGood := none, lastTime := none, timer := some x.timeout }
  else disabledSlot

/-- The Machine Bus Port after every reset (01 R11, R17). -/
def startMbp (r : Retained) : Mbp :=
  { slots := r.sources.map startSlot, busOff := false, rolling := 0, unsent := 0, built := false, acked := false,
    deferred := false, waiting := none, period := if demandEnabled r.settings then some Config.demandPeriod else none,
    recovery := none }

/-- The starting state of a slot (01 R11). -/
def startSlotState (r : Retained) (i : Nat) : SourceState := (startSlot (r.sources.getD i (sourceDefault 0 0))).state

/-- The Pose Unit after every reset (03 R50). -/
def startPu (r : Retained) : Pu :=
  { gatePhi := 0, gateRef := false, gateOmega := 0,
    links := [startSlotState r 0, startSlotState r 1, startSlotState r 2], pose := startPose, detector := .waitDig }

/-- The Slew Limiter after every reset (05 R87). -/
def startSlm (r : Retained) : Slm := { held := startPose, record := limitRecord r false startPose }

/-- The Grade Guide after every reset (06 R104). -/
def startGg (r : Retained) : Gg :=
  { held := startPose, guidance := { seq := 0, target := r.selection, state := .noPose, d := none }, floor := startFloor,
    hold := none }

/-- The Economy Controller after every reset (07 R126). -/
def startEc (r : Retained) : Ec :=
  { copies := [3, 4, 5, 6, 7].map (fun i => ⟨startSlotState r i, none⟩), omega := 0, gateStill := r.settings.still,
    active := true, state := .stopped, autoIdle := none, shutdown := none, wait := none, oilLatch := false,
    torque := torqueLimit r .stopped false, partialMs := 0, overMs := 0, pumpSum := 0, pumpCount := 0,
    prevFuel := none, fuelRem := 0 }

/-- The Valve Drive after every reset (10 R174), with the targets its owners hand over and the up qualification judged at
the present voltage. -/
def startVd (r : Retained) (supply : Nat) : Vd :=
  ({ chans := [startChannel (slewTarget (r.config 0) (startSlm r).record.left),
               startChannel (slewTarget (r.config 1) (startSlm r).record.right), startChannel 0,
               startChannel (torqueTarget (r.config 3).imax (startEc r).torque)],
     supplyLow := true, downQual := none, upQual := none, test := none, duration := none } : Vd).judgeSupply
    r.settings.supplyDown r.settings.supplyUp supply

/-- The retained contents once the Service Schedule has evaluated every occupied item (08 R144). -/
def Retained.evaluated (r : Retained) : Retained :=
  { r with items := r.items.map (fun e => e.map (fun it => it.evaluated r)) }

/-- The present conditions of every occupied item (08 R144). -/
def startItemReports (items : List (Option Item)) : List Report :=
  (List.range items.length).flatMap (fun i => itemReports i none (stateOf (items.getD i none)))

/-- The conditions and causes of the blocks' starting states (09 R159; log entry 6 for their order). -/
def startReports (r : Retained) : List Report :=
  [.condition noticeSlewUnreferenced true] ++ limitReports (startSlm r).record ++ floorReports startFloor ++
    [.condition noticeGeometryUnset r.geometry.dims.isNone] ++ startItemReports r.items ++
    [.condition noticeSupplyLow true]

/-- Every block's volatile state takes its initial value, the retained contents being kept, and the blocks report (R185);
`extra` is what the Retained Memory reports after them (R184). -/
def State.start (s : State) (extra : List Report) : State :=
  let r := s.ret.evaluated
  ({ s with
      phase := .running, lossUnreported := false, ret := r, mbp := startMbp r, sc := startSc, pu := startPu r, zt := startZt, slm := startSlm r,
      gg := startGg r, ec := startEc r, nu := startNu, vd := startVd r s.pins.supply, link := startLink,
      inbox := startReports r ++ extra }).deliver

/-! ### Resets and power -/

/-- Meaning of RESTART (R185): as at the release of RESET_N; no response. -/
def execRestart (s : State) : Result :=
  .next (match s.phase with
    | .running => s.start []
    | _ => s)

/-- RESET_N goes low or high. -/
def State.setResetLow (s : State) (low : Bool) : State := { s with pins := { s.pins with resetLow := low } }

/-- Meaning of RESET_N_ASSERTED (R185): RESET_N is low, and a part that runs is held until the release. -/
def execResetNAsserted (s : State) : Result :=
  .next (match s.phase with
    | .running => { s.setResetLow true with phase := .held }
    | _ => s.setResetLow true)

/-- The cause that the Retained Memory reports where it found the contents LOST (R184). -/
def lossReports (lost : Bool) : List Report := if lost then [.cause noticeRetainedLost false] else []

/-- Meaning of RESET (R185): RESET_N is released and the blocks start; without VDD only the pin moves (log entry 21). A loss
that a power-on found while RESET_N was low is reported now (log entry 38). -/
def execReset (s : State) : Result :=
  .next (match s.phase with
    | .unpowered => s.setResetLow false
    | _ => (s.setResetLow false).start (lossReports s.lossUnreported))

/-- The Retained Memory's judgement at a power-on (R184): contents LOST where the latch is set; the latch is cleared. -/
def State.judgeRetained (s : State) : State :=
  { s with ret := if s.backupDropped then defaultRetained else s.ret, backupDropped := false }

/-- VDD comes up: the contents are judged and every block's volatile state takes its initial value (R184, R185). -/
def State.powerUp (s : State) : State := s.judgeRetained.start (lossReports s.backupDropped)

/-- Meaning of POWER_ON (R184, R185). With RESET_N low the part is held until the release, and a loss found waits to be
reported then (log entry 38). -/
def execPowerOn (s : State) : Result :=
  .next (if s.pins.resetLow then { s.powerUp with phase := .held, lossUnreported := s.backupDropped } else s.powerUp)

/-- Meaning of POWER_LOSS (R183): VDD is absent; the retained contents are fed from VBACKUP. -/
def execPowerLoss (s : State) : Result := .next { s with phase := .unpowered }

/-- Meaning of BACKUP_DROPPED (R184): the backup monitor watches VBACKUP only while VDD is absent. DESIGN CHOICE: a VBACKUP
that fell before VDD was lost, and is below 2.0 V at the loss, makes no fall then, and the latch stays clear (log entry 37). -/
def execBackupDropped (s : State) : Result :=
  .next (match s.phase with
    | .unpowered => { s with backupDropped := true }
    | _ => s)

/-! ### CLEAR_RETAINED (R186), owner by owner (log entry 8) -/

/-- A write of a setting's default. -/
def State.settingDefault (s : State) (n : Nat) : State :=
  s.applySetting n (s.ret.settings.written ((defaultSettings.get n).getD 0) n)

/-- The Machine Bus Port (01 R10): every slot as a RETIRE of it, the three settings as writes of their defaults. DESIGN CHOICE:
R10 gives them no order; the slots act first, ascending, then the bit rate, the identifier and the enable (log entry 8). -/
def State.clearBus (s : State) : State :=
  [0, 1, 2].foldl State.settingDefault ((List.range 8).foldl State.retireSource s)

/-- The Slew Counter (02 R19): its settings as writes of their defaults. -/
def State.clearSlew (s : State) : State := [3, 4, 5, 6, 7].foldl State.settingDefault s

/-- The Zone Table (04 R71): entries and settings at their defaults, mode and edit timer as they were, one change report. -/
def State.clearZones (s : State) : State :=
  ({ s with ret := { s.ret with
      zones := List.replicate 12 none, sectors := List.replicate 32 defaultSector
      settings := { s.ret.settings with
        zoneLimiting := defaultSettings.zoneLimiting, sectorMap := defaultSettings.sectorMap,
        defaultClass := defaultSettings.defaultClass, holdClass := defaultSettings.holdClass,
        noAngleClass := defaultSettings.noAngleClass, editTimeout := defaultSettings.editTimeout } } }).evaluateLimits

/-- The Slew Limiter (05 R72): its settings at their defaults and one evaluation. -/
def State.clearLimiter (s : State) : State :=
  (s.setSettings { s.ret.settings with decel := defaultSettings.decel, margin := defaultSettings.margin }).evaluateLimits

/-- The Grade Guide (06 R105): surfaces, selection and settings at their defaults and one evaluation. -/
def State.clearGrade (s : State) : State :=
  ({ s with ret := { s.ret with
      surfaces := List.replicate 8 none, selection := none
      settings := { s.ret.settings with
        onGradeBand := defaultSettings.onGradeBand, floorBand := defaultSettings.floorBand } } }).evaluateGrade

/-- The settings with those of the Economy Controller at their defaults (07 R109). -/
def Settings.economyDefaults (x : Settings) : Settings :=
  { x with
    idleSpeed := defaultSettings.idleSpeed, runThreshold := defaultSettings.runThreshold,
    autoIdleDelay := defaultSettings.autoIdleDelay, shutdownDelay := defaultSettings.shutdownDelay,
    pilotThreshold := defaultSettings.pilotThreshold, idleTorque := defaultSettings.idleTorque,
    oilStart := defaultSettings.oilStart, oilTorque := defaultSettings.oilTorque, ratedPump := defaultSettings.ratedPump }

/-- The Economy Controller (07 R127): work modes, selected mode and settings at their defaults, the Shift Summary and the fuel
remainder 0, the meters kept; engine speed, activity and oil judged afresh, T worked out afresh. -/
def State.clearEconomy (s : State) : State :=
  (({ s with
      ret := { s.ret with
        modes := defaultModes, selectedMode := defaultMode, shift := zeroShift,
        settings := s.ret.settings.economyDefaults }
      ec := { s.ec with fuelRem := 0 } }).judgeEngine.judgeActivity.judgeOil).workOutTorque

/-- The retirement of every occupied index (08 R144). -/
def retirements (items : List (Option Item)) : List Report :=
  (List.range items.length).filterMap (fun i => (items.getD i none).map (fun _ => Report.retirement i))

/-- The Service Schedule (08 R144): every item retired, one derate report. -/
def State.clearService (s : State) : State :=
  (({ s with ret := { s.ret with items := List.replicate 24 none } }).report (retirements s.ret.items)).workOutTorque

/-- A channel treated as retired (10 R161). -/
def State.channelDefault (s : State) (ch : Nat) : State := s.writeChannel ch (defaultConfig ch)

/-- The Valve Drive (10 R161, R169): every channel treated as retired, the thresholds at their defaults and judged. -/
def State.clearValves (s : State) : State :=
  (((List.range 4).foldl State.channelDefault s).setSettings
    { ((List.range 4).foldl State.channelDefault s).ret.settings with
      supplyDown := defaultSettings.supplyDown, supplyUp := defaultSettings.supplyUp }).judgeSupply

/-- The Notice Unit (09 R157, R158): its settings at their defaults. -/
def State.clearNoticeSettings (s : State) : State :=
  s.setSettings { s.ret.settings with
    lampStretch := defaultSettings.lampStretch, statusA := defaultSettings.statusA, statusALow := defaultSettings.statusALow,
    statusB := defaultSettings.statusB, statusBLow := defaultSettings.statusBLow }

/-- Every owner takes its defaults and acts on them (R186). -/
def State.clearRetained (s : State) : State :=
  ((((((((s.clearBus.clearSlew).writeGeometry defaultGeometry).clearZones).clearLimiter).clearGrade).clearEconomy).clearService).clearValves).clearNoticeSettings

/-- CLEAR_RETAINED with its checks (R186). -/
def State.clearRetainedRequest (s : State) : State × ResultCode :=
  if !s.pins.keyAsserted then (s, .locked)
  else if s.ec.state ≠ .stopped then (s, .state)
  else (s.clearRetained, .ok)

/-- Meaning of CLEAR_RETAINED (R186). -/
def execClearRetained (s : State) : Result :=
  s.commit (fun s => s.clearRetainedRequest.1.answer 23 s.clearRetainedRequest.2 [])

end Sys2Proof.Machine
end

