-- ==== Sys2Proof/Machine/Gate.lean ====
section
/-! DEFINITION. GATE_TIMER_EXPIRY (02 R28), and the write that falls together with it (R19; log entry 33). -/

namespace Sys2Proof.Machine

/-- A write of a value to a parameter number changes CPR or the index position (R19). -/
def Settings.unreferencedBy (x : Settings) (n : Nat) (v : Int) : Bool :=
  (n == 3 || n == 4) && decide (x.written v n ≠ x)

/-- A command is a write that changes CPR or the index position (R19): an accepted PUT or RETIRE of the one or the other, or a
CLEAR_RETAINED that is done and finds one off its default. -/
def State.unreferencedBy (s : State) : Instr → Bool
  | .putEntry table index payload =>
    table.toNat == 9 && payload.length == 4 && s.ret.settings.unreferencedBy index.toNat (fieldInt payload 0 4)
  | .retireEntry table index =>
    table.toNat == 9 && s.ret.settings.unreferencedBy index.toNat ((defaultSettings.get index.toNat).getD 0)
  | .clearRetained =>
    s.pins.keyAsserted && s.ec.state == .stopped &&
      (s.ret.settings.cpr != defaultSettings.cpr || s.ret.settings.indexPos != defaultSettings.indexPos)
  | _ => false

/-- Such a write falls together with the gate's expiry and is taken after it: it waits directly behind (log entry 33). -/
def State.writeBehind (s : State) : Bool := s.pending.head?.any s.unreferencedBy

/-- The gate's expiry (R28). Where a write of CPR or the index position falls together with it, the count and the reference
state that go out with the gate are those after the write (R19). -/
def State.gateExpires (s : State) : State :=
  if s.writeBehind then s.closeGate 0 false else s.closeGate s.sc.count s.sc.referenced

/-- Meaning of GATE_TIMER_EXPIRY (R28). -/
def execGateTimerExpiry (s : State) : Result := s.commit (fun s => s.expire s.sc.gate State.gateExpires)

end Sys2Proof.Machine
end

