-- ==== Sys2Proof/Machine/Dispatch.lean ====
section
/-! DEFINITION. Which meaning each command has: one arm for each row of spec/opcode_table.json. -/

namespace Sys2Proof.Machine

def exec (i : Instr) (s : State) : Host.Outcome State Fault Refusal :=
  match i with
  | .frameArrival frame => Sys2Proof.Machine.execFrameArrival frame s
  | .sourceTimeoutExpiry slot => Sys2Proof.Machine.execSourceTimeoutExpiry slot s
  | .periodTimerExpiry attemptOnBus => Sys2Proof.Machine.execPeriodTimerExpiry attemptOnBus s
  | .transmissionAttemptEnd acknowledged => Sys2Proof.Machine.execTransmissionAttemptEnd acknowledged s
  | .recoveryTimerExpiry => Sys2Proof.Machine.execRecoveryTimerExpiry s
  | .slewStep a b => Sys2Proof.Machine.execSlewStep a b s
  | .indexMark => Sys2Proof.Machine.execIndexMark s
  | .gateTimerExpiry => Sys2Proof.Machine.execGateTimerExpiry s
  | .editTimerExpiry => Sys2Proof.Machine.execEditTimerExpiry s
  | .holdTimerExpiry => Sys2Proof.Machine.execHoldTimerExpiry s
  | .autoIdleTimerExpiry => Sys2Proof.Machine.execAutoIdleTimerExpiry s
  | .shutdownTimerLeft => Sys2Proof.Machine.execShutdownTimerLeft s
  | .shutdownTimerExpiry => Sys2Proof.Machine.execShutdownTimerExpiry s
  | .shutdownWaitExpiry => Sys2Proof.Machine.execShutdownWaitExpiry s
  | .quantumCompletion => Sys2Proof.Machine.execQuantumCompletion s
  | .flashTimerExpiry lamp => Sys2Proof.Machine.execFlashTimerExpiry lamp s
  | .stretchTimerExpiry lamp => Sys2Proof.Machine.execStretchTimerExpiry lamp s
  | .rampIntervalExpiry channel sensed => Sys2Proof.Machine.execRampIntervalExpiry channel sensed s
  | .overCurrent channel sensed => Sys2Proof.Machine.execOverCurrent channel sensed s
  | .supplyVoltageChange voltage => Sys2Proof.Machine.execSupplyVoltageChange voltage s
  | .downQualificationExpiry => Sys2Proof.Machine.execDownQualificationExpiry s
  | .upQualificationExpiry => Sys2Proof.Machine.execUpQualificationExpiry s
  | .durationTimerExpiry => Sys2Proof.Machine.execDurationTimerExpiry s
  | .serviceKeyRelease => Sys2Proof.Machine.execServiceKeyRelease s
  | .transactionStart => Sys2Proof.Machine.execTransactionStart s
  | .transactionEnd sdi => Sys2Proof.Machine.execTransactionEnd sdi s
  | .responseReady => Sys2Proof.Machine.execResponseReady s
  | .readEntry table index => Sys2Proof.Machine.execReadEntry table index s
  | .putEntry table index payload => Sys2Proof.Machine.execPutEntry table index payload s
  | .retireEntry table index => Sys2Proof.Machine.execRetireEntry table index s
  | .listTable table => Sys2Proof.Machine.execListTable table s
  | .openZones => Sys2Proof.Machine.execOpenZones s
  | .closeZones => Sys2Proof.Machine.execCloseZones s
  | .selectTarget index => Sys2Proof.Machine.execSelectTarget index s
  | .setWorkMode index => Sys2Proof.Machine.execSetWorkMode index s
  | .serviceDone index => Sys2Proof.Machine.execServiceDone index s
  | .ackHead => Sys2Proof.Machine.execAckHead s
  | .ackNotice number => Sys2Proof.Machine.execAckNotice number s
  | .ackAll => Sys2Proof.Machine.execAckAll s
  | .readNotices => Sys2Proof.Machine.execReadNotices s
  | .readPose => Sys2Proof.Machine.execReadPose s
  | .readGuidance => Sys2Proof.Machine.execReadGuidance s
  | .readLimits => Sys2Proof.Machine.execReadLimits s
  | .readEconomy => Sys2Proof.Machine.execReadEconomy s
  | .clearShift => Sys2Proof.Machine.execClearShift s
  | .readDrive => Sys2Proof.Machine.execReadDrive s
  | .clearValveFault channel => Sys2Proof.Machine.execClearValveFault channel s
  | .driveTest channel current duration => Sys2Proof.Machine.execDriveTest channel current duration s
  | .driveTestStop => Sys2Proof.Machine.execDriveTestStop s
  | .clearRetained => Sys2Proof.Machine.execClearRetained s
  | .restart => Sys2Proof.Machine.execRestart s
  | .resetNAsserted => Sys2Proof.Machine.execResetNAsserted s
  | .reset => Sys2Proof.Machine.execReset s
  | .powerOn => Sys2Proof.Machine.execPowerOn s
  | .powerLoss => Sys2Proof.Machine.execPowerLoss s
  | .backupDropped => Sys2Proof.Machine.execBackupDropped s
  | .serviceKeyAsserted => Sys2Proof.Machine.execServiceKeyAsserted s
  | .slewZFall => Sys2Proof.Machine.execSlewZFall s

end Sys2Proof.Machine
end

