-- ==== Sys2Proof/WellFormed.lean ====
section
/-! DEFINITION. Which terms of `Instr` are commands the outside can send: the ranges that the operand types do not already
hold. The meanings are total; an ill-formed term is no event of the part. -/

namespace Sys2Proof

/-- A frame of the bus: an identifier of 29 or 11 bits, a data length code of four bits, and as many data bytes as the code
says, 8 at most and none in a remote frame (01 R1). -/
def CanFrame.wellFormed (f : CanFrame) : Bool :=
  decide (f.ident < (if f.extended then 2 ^ 29 else 2 ^ 11)) && decide (f.dlc < 16) &&
  decide (f.data.length = if f.remote then 0 else min f.dlc 8)

/-- The well-formed commands. A PUT payload has 0..60 bytes (11 R176); VSUP_SNS measures 0..36.0 V (10 R168); a ramp
interval has ten milliseconds (10 R163), and a sensed current fits the two-byte field that carries its mean (11 Table 11-5). -/
def Instr.wellFormed : Instr → Bool
  | .frameArrival f => f.wellFormed
  | .putEntry _ _ payload => decide (payload.length ≤ 60)
  | .rampIntervalExpiry _ sensed => decide (sensed.length = 10) && sensed.all (fun i => decide (i < 2 ^ 16))
  | .overCurrent _ sensed => decide (sensed < 2 ^ 16)
  | .supplyVoltageChange v => decide (v ≤ 360)
  | _ => true

end Sys2Proof
end

