-- ==== Sys2Proof/Safety.lean ====
section
/-! DEFINITION. What a sound state is: the relations between fields that the rules promise at all times, each a decidable
predicate on one state, and the few further terms that the statements use. -/

namespace Sys2Proof.Machine

/-! ### Sound states -/

/-- A part that runs, between two steps: no report is on its way to the Notice Unit. -/
abbrev State.Ready (s : State) : Prop := s.phase = .running ∧ s.inbox = []

/-- The Notice List is in order (09 R150, R151): 110 notices; at most 8 entries, none twice, each RAISED; and with fewer than
8 entries every RAISED notice is listed. -/
abbrev Nu.Sound (nu : Nu) : Prop :=
  nu.notices.length = noticeCount ∧ nu.list.length ≤ Config.listPlaces ∧ nu.list.Nodup ∧
    (∀ n ∈ nu.list, isRaised nu.notices n = true) ∧
    (nu.list.length < Config.listPlaces → ∀ n, n < noticeCount → isRaised nu.notices n = true → n ∈ nu.list)

/-- The weighted meter lies between 50 and 150 times the engine meter, which does not pass its top (07 R122). -/
abbrev Retained.MetersSound (r : Retained) : Prop :=
  r.engineMeter ≤ 4000000000 ∧ 50 * r.engineMeter ≤ r.weightedMeter ∧ r.weightedMeter ≤ 150 * r.engineMeter

/-- Every occupied item stands in the state that its progress gives (08 R130). -/
abbrev Retained.ItemsSound (r : Retained) : Prop :=
  ∀ e ∈ r.items, ∀ it ∈ e, it.state = itemStateOf it.interval it.lead it.grace (it.progress r)

/-- T is the torque limit that its inputs give (07 R118). -/
abbrev State.TorqueSound (s : State) : Prop := s.ec.torque = torqueLimit s.ret s.ec.state s.ec.oilLatch

/-- Every figure that enters T lies in 40..100 % (07 R106, R109; 08 R128): four work modes, one of them selected. -/
abbrev Retained.FiguresSound (r : Retained) : Prop :=
  r.modes.length = 4 ∧ (∀ m ∈ r.modes, 40 ≤ m.torque ∧ m.torque ≤ 100) ∧ r.selectedMode < 4 ∧
    40 ≤ r.settings.idleTorque ∧ r.settings.idleTorque ≤ 100 ∧ 40 ≤ r.settings.oilTorque ∧
    (∀ e ∈ r.items, ∀ it ∈ e, ∀ d ∈ it.derate, 40 ≤ d)

/-- The floor record asks for no more than Imax2, and a NEAR record, held or not, holds a distance inside its band (06 R98). -/
abbrev State.FloorSound (s : State) : Prop :=
  s.gg.floor.target ≤ (s.ret.config 2).imax ∧
    ((s.gg.floor.state = .near ∨ s.gg.floor.held = some .near) →
      0 < s.gg.floor.dF.getD 0 ∧ s.gg.floor.dF.getD 0 < (s.gg.floor.band.getD 0 : Nat))

/-- Four channels with four configurations; start current, slow current, owner's target and test target within Imax; the
commanded current 0 or between start current and Imax, and 0 while the channel is FAULTED or the supply LOW (10 R160 to
R163); and the figures from which owners work their targets out in their ranges. -/
abbrev State.DriveSound (s : State) : Prop :=
  s.vd.chans.length = 4 ∧ s.ret.configs.length = 4 ∧
    (∀ ch, ch < 4 →
      (s.ret.config ch).start ≤ (s.ret.config ch).imax ∧ (s.ret.config ch).slow.getD 0 ≤ (s.ret.config ch).imax ∧
      (s.vd.chan ch).owner ≤ (s.ret.config ch).imax ∧
      ((s.vd.chan ch).commanded = 0 ∨
        ((s.ret.config ch).start ≤ (s.vd.chan ch).commanded ∧ (s.vd.chan ch).commanded ≤ (s.ret.config ch).imax)) ∧
      (((s.vd.chan ch).fault.isSome = true ∨ s.vd.supplyLow = true) → (s.vd.chan ch).commanded = 0)) ∧
    (∀ x ∈ s.vd.test, x.current ≤ (s.ret.config x.channel).imax) ∧
    s.FloorSound ∧ s.ret.FiguresSound ∧ 40 ≤ s.ec.torque ∧ s.ec.torque ≤ 100

/-- Each channel holds the target that its owner's record gives with the configuration in force, the floor record's being the one
that its state, or in HOLDING its held state, gives (05 R83, 06 R101, 07 R119). -/
abbrev State.TargetsSound (s : State) : Prop :=
  s.vd.chans.length = 4 ∧ s.ret.configs.length = 4 ∧
    (s.vd.chan 0).owner = slewTarget (s.ret.config 0) s.slm.record.left ∧
    (s.vd.chan 1).owner = slewTarget (s.ret.config 1) s.slm.record.right ∧
    (s.vd.chan 2).owner = s.gg.floor.target ∧
    s.gg.floor.target = floorTarget (s.ret.config 2).imax
      (if s.gg.floor.state = .holding then s.gg.floor.held.getD .none else s.gg.floor.state) s.gg.floor.band s.gg.floor.dF ∧
    (s.vd.chan 3).owner = torqueTarget (s.ret.config 3).imax s.ec.torque

/-- A pose carries x and y exactly when it is COMPLETE, and r and z exactly when it is not INVALID (03 R43). -/
abbrev Pose.Sound (p : Pose) : Prop :=
  (p.x.isSome ↔ p.quality = .complete) ∧ (p.y.isSome ↔ p.quality = .complete) ∧
    (p.r.isSome ↔ p.quality ≠ .invalid) ∧ (p.z.isSome ↔ p.quality ≠ .invalid) ∧ (p.quality = .complete → p.phi.isSome)

/-- The Pose record and both held poses are sound (03 R43, R47). -/
abbrev State.PosesSound (s : State) : Prop := s.pu.pose.Sound ∧ s.slm.held.Sound ∧ s.gg.held.Sound

/-- A slot's timer runs in NEVER, FRESH and IMPLAUSIBLE and is stopped in STALE and DISABLED (01 R2). -/
def SourceState.timed : SourceState → Bool
  | .never => true
  | .fresh => true
  | .implausible => true
  | .stale => false
  | .disabled => false

/-- The Source Table has its eight slots; each is DISABLED exactly when its identifier is absent; its timer runs as its state
says; and a FRESH slot holds a last good value and its time (01 R2, R4). -/
abbrev State.SlotsSound (s : State) : Prop :=
  s.mbp.slots.length = 8 ∧ s.ret.sources.length = 8 ∧
    ∀ i, i < 8 → ((s.slot i).state = .disabled ↔ (s.source i).identifier = none) ∧
      ((s.slot i).timer.isSome ↔ (s.slot i).state.timed = true) ∧
      ((s.slot i).state = .fresh → (s.slot i).lastGood.isSome ∧ (s.slot i).lastTime.isSome)

/-- The count lies in 0..CPR − 1 and the travel in 0..2 × CPR, the index position within the CPR, the CPR within its range
(02 R18, R20, R26). -/
abbrev State.CountSound (s : State) : Prop :=
  1000 ≤ s.ret.settings.cpr ∧ s.ret.settings.indexPos < s.ret.settings.cpr ∧ s.sc.count < s.ret.settings.cpr ∧
    s.sc.travel ≤ 2 * s.ret.settings.cpr

/-- The timers run in their states: the edit timer exactly while the table is OPEN (04 R57), the hold timer exactly in HOLDING
(06 R99), the auto-idle timer exactly in SETTLING, the wait timer exactly in SHUTDOWN_REQUESTED, the shutdown timer in
IDLING only (07 R113, R114), the duration timer exactly while a drive test runs (10 R171, R172). -/
abbrev State.TimersSound (s : State) : Prop :=
  (s.zt.edit.isSome ↔ s.zt.isOpen = true) ∧ (s.gg.hold.isSome ↔ s.gg.floor.state = .holding) ∧
    (s.ec.autoIdle.isSome ↔ s.ec.state = .settling) ∧ (s.ec.wait.isSome ↔ s.ec.state = .shutdownRequested) ∧
    (s.ec.shutdown.isSome → s.ec.state = .idling) ∧ (s.vd.duration.isSome ↔ s.vd.test.isSome)

/-- A drive test runs only in STOPPED and IDLING and only of a channel that is not FAULTED (10 R171, R172). -/
abbrev State.TestSound (s : State) : Prop :=
  ∀ x ∈ s.vd.test, (s.ec.state = .stopped ∨ s.ec.state = .idling) ∧ (s.vd.chan x.channel).fault = none

/-! ### Terms of the statements -/

/-- The Notice Set once reports have been taken one after another in the order in which they were made (09 R146 to R149). -/
def noticesAfter (rs : List Report) (ns : List Notice) : List Notice := rs.foldl (fun ns r => applyReport r ns) ns

/-- The three conditions of a limit record (05 R85): SLEW_BLOCKED 32, SLEW_SLOWED 57, ZONE_WARN 82. -/
def limitConditions (r : LimitRecord) : List Report :=
  [.condition 32 (decide (r.left = .blocked ∨ r.right = .blocked)),
   .condition 57 (decide (r.left = .limited ∨ r.right = .limited)),
   .condition 82 (decide (r.leftClass = some .warn ∨ r.rightClass = some .warn))]

/-- The three conditions of a floor record (06 R102): FLOOR_REACHED 33, FLOOR_UNAVAILABLE 34, FLOOR_NEAR 83. -/
def floorConditions (f : FloorRecord) : List Report :=
  [.condition 33 (decide (f.state = .atFloor ∨ (f.state = .holding ∧ f.held = some .atFloor))),
   .condition 34 (decide (f.state = .unavailable)),
   .condition 83 (decide (f.state = .near ∨ (f.state = .holding ∧ f.held = some .near)))]

/-- What a move of item i reports (08 R134): each of its conditions CRITICAL 8 + i, OVERDUE 58 + i and DUE 86 + i that changes,
the beginning of CRITICAL being a cause. -/
def itemConditions (i : Nat) (before after : Option ItemState) : List Report :=
  let changed (number : Nat) (st : ItemState) : List Report :=
    if (before = some st) ↔ (after = some st) then [] else [.condition number (decide (after = some st))]
  (if before ≠ some .critical ∧ after = some .critical then [.cause (8 + i) true] else changed (8 + i) .critical) ++
    changed (58 + i) .overdue ++ changed (86 + i) .due

/-- What the moves of all items on some bases report, by index (08 R134). -/
def itemsConditions (concerns : ServiceBasis → Bool) (before after : List (Option Item)) : List Report :=
  (List.range before.length).flatMap (fun i =>
    if (before.getD i none).any (fun it => concerns it.basis) then
      itemConditions i ((before.getD i none).map Item.state) ((after.getD i none).map Item.state)
    else [])

/-- Whether a command's front place in the queue may return retained contents to their defaults: CLEAR_RETAINED, and a
power-on that finds backup dropped latched (11 R184, R186). -/
def State.clearsNext (s : State) : Prop :=
  s.pending.head? = some .clearRetained ∨ (s.pending.head? = some .powerOn ∧ s.backupDropped = true)

/-- An item's fields apart from its state and its count of cycles: what only a request writes (08 R128). -/
def Item.written (it : Item) : Item := { it with state := .counting, cycles := none }

/-- The payload of a PUT_ENTRY on ZONES that carries a zone (11 Table 11-4). -/
def Zone.payload (z : Zone) : List Byte :=
  toBe 1 (if z.active then 1 else 2) ++ toBe 2 z.start ++ toBe 2 z.width ++ toBe 1 z.condition.code ++ optBeInt 4 z.limit ++
    toBe 1 z.cls.code ++ toBe 2 z.tag

/-- A zone that passes every check of 04 R62, the tag's as 11 R182 has it (log entry 34). -/
abbrev Zone.Sound (z : Zone) : Prop :=
  z.start ≤ 16383 ∧ 1 ≤ z.width ∧ z.width ≤ 16384 ∧ z.cls ≠ .free ∧ z.tag < 65535 ∧
    match z.condition with
    | .always => z.limit = none
    | .tipAbove => ∃ l ∈ z.limit, -30000 ≤ l ∧ l ≤ 30000
    | .tipBelow => ∃ l ∈ z.limit, -30000 ≤ l ∧ l ≤ 30000
    | .reachBeyond => ∃ l ∈ z.limit, 0 ≤ l ∧ l ≤ 45000

/-- The payload of a PUT_ENTRY on SURFACES that carries a surface (11 Table 11-4). -/
def Surface.payload (f : Surface) : List Byte :=
  toBe 1 (if f.active then 1 else 2) ++ toBe 1 f.kind.code ++ toBeInt 2 f.h0 ++ toBeInt 2 f.sx ++ toBeInt 2 f.sy ++
    toBe 2 f.start ++ toBe 2 f.width ++ toBe 2 f.tag

/-- A surface that passes every check of 06 R91, the tag's as 11 R182 has it (log entry 34). -/
abbrev Surface.Sound (f : Surface) : Prop :=
  -30000 ≤ f.h0 ∧ f.h0 ≤ 30000 ∧ -2000 ≤ f.sx ∧ f.sx ≤ 2000 ∧ -2000 ≤ f.sy ∧ f.sy ≤ 2000 ∧ f.start ≤ 16383 ∧
    1 ≤ f.width ∧ f.width ≤ 16384 ∧ f.tag < 65535

/-- The payload of a PUT_ENTRY on SERVICE_ITEMS that carries an item's figures (11 Table 11-4). -/
def Item.payload (it : Item) : List Byte :=
  toBe 1 it.basis.code ++ toBe 4 it.interval ++ toBe 4 it.lead ++ toBe 4 it.grace ++ optBe 1 it.derate ++ toBe 2 it.tag

/-- An item's figures that pass every check of 08 R137, the tag's as 11 R182 has it (log entry 34). -/
abbrev Item.Sound (it : Item) : Prop :=
  1 ≤ it.interval ∧ it.interval ≤ 4000000000 ∧ it.lead ≤ it.interval ∧ it.grace ≤ 4000000000 ∧
    (∀ d ∈ it.derate, 40 ≤ d ∧ d ≤ 100) ∧ it.tag < 65535

/-- The payload of a PUT_ENTRY on SOURCES that carries a record (11 Table 11-4). -/
def SourceRecord.payload (x : SourceRecord) : List Byte :=
  optBe 4 x.identifier ++ toBe 1 x.offset ++ toBe 1 x.order.code ++ toBeInt 4 x.lo ++ toBeInt 4 x.hi ++ toBe 2 x.timeout

/-- A source record that passes every check of 01 R9 for a slot: slot 6 is SIGNED. -/
abbrev SourceRecord.Sound (i : Nat) (x : SourceRecord) : Prop :=
  (∀ d ∈ x.identifier, d ≤ 536870911) ∧ x.offset ≤ 6 ∧ 20 ≤ x.timeout ∧ x.timeout ≤ 2000 ∧ x.lo ≤ x.hi ∧
    (if i = 6 then -32768 ≤ x.lo ∧ x.hi ≤ 32767 else 0 ≤ x.lo ∧ x.hi ≤ 65535)

/-- The payload of a PUT_ENTRY on GEOMETRY (11 Table 11-4). -/
def geometryPayload (g : Dims) (dig dump : Int) : List Byte :=
  toBeInt 2 g.fr ++ toBeInt 2 g.fz ++ toBeInt 2 g.lb ++ toBeInt 2 g.ls ++ toBeInt 2 g.lk ++ toBeInt 2 g.ob ++
    toBeInt 2 g.os ++ toBeInt 2 g.ok ++ toBeInt 2 dig ++ toBeInt 2 dump

/-- The ranges of 03 R33. -/
abbrev Dims.Sound (g : Dims) : Prop :=
  0 ≤ g.fr ∧ g.fr ≤ 8000 ∧ -2000 ≤ g.fz ∧ g.fz ≤ 10000 ∧ 1000 ≤ g.lb ∧ g.lb ≤ 20000 ∧ 500 ≤ g.ls ∧ g.ls ≤ 12000 ∧
    300 ≤ g.lk ∧ g.lk ≤ 5000 ∧ -8192 ≤ g.ob ∧ g.ob ≤ 8191 ∧ -8192 ≤ g.os ∧ g.os ≤ 8191 ∧ -8192 ≤ g.ok ∧ g.ok ≤ 8191

/-- The ranges of the settings that a write clamps without touching another setting, by parameter number (11 Table 11-3;
01 R12, 02 R18, 04 R53, 05 R72, 06 R90, 07 R109, 09 R157, R158). -/
def plainRanges : List (Nat × Int × Int) :=
  [(2, 0, 1), (5, 0, 10000), (6, 0, 8192), (7, 0, 500), (8, 0, 1), (9, 0, 1), (10, 0, 3), (11, 0, 3), (12, 0, 3), (13, 1, 60),
   (16, 100, 20000), (17, 0, 2048), (18, 0, 500), (19, 0, 3000), (20, 700, 1200), (21, 300, 700), (24, 0, 500), (25, 40, 100),
   (26, 70, 110), (27, 40, 100), (28, 100, 450), (29, 0, 3), (30, 0, 9), (31, 0, 1), (32, 0, 9), (33, 0, 1)]

end Sys2Proof.Machine
end

