-- ==== Sys2Proof/Certificates/Slice0/Obligations.lean ====
section
/-! DEFINITION. The statements for the provers. A statement about a command is an equation on the state that the command
leaves, or says what holds of it and that the rest is as before; `State.deliver` stands for the Notice Unit taking the reports
listed in `inbox`, which O5 to O8 describe, and holds for every value of the free value `choice`. -/

open Sys2Proof Sys2Proof.Machine

/-! ### The machine -/

/-- O1. Taking the command at the front of the queue (log entry 1). -/
def Obligations.StepRunsFrontCommand : Prop :=
  ∀ (c : Instr) (rest : List Instr) (s : State), step { s with pending := c :: rest } = exec c { s with pending := rest }

/-- O2. An empty queue is the model's tick of one millisecond (DESIGN CHOICE, log entry 2): running timers, the partial quantum and
the running time that waits beyond a full one (log entry 3) move, and nothing else does; a part that does not run stands
still. -/
def Obligations.EmptyQueueTick : Prop :=
  ∀ s : State, s.pending = [] →
    (s.phase ≠ .running → step s = .next s) ∧
    (s.phase = .running → ∃ t, step s = .next t ∧
      t = { s with
        now := s.now + 1
        mbp := { s.mbp with slots := t.mbp.slots, period := t.mbp.period, recovery := t.mbp.recovery }
        sc := { s.sc with gate := t.sc.gate }
        zt := { s.zt with edit := t.zt.edit }
        gg := { s.gg with hold := t.gg.hold }
        ec := { s.ec with
          autoIdle := t.ec.autoIdle, shutdown := t.ec.shutdown, wait := t.ec.wait, partialMs := t.ec.partialMs
          overMs := t.ec.overMs }
        nu := { s.nu with
          red := { s.nu.red with flash := t.nu.red.flash, stretch := t.nu.red.stretch }
          amber := { s.nu.amber with flash := t.nu.amber.flash, stretch := t.nu.amber.stretch } }
        vd := { s.vd with chans := t.vd.chans, downQual := t.vd.downQual, upQual := t.vd.upQual, duration := t.vd.duration } } ∧
      t.mbp.slots = s.mbp.slots.map (fun x => { x with timer := x.timer.map (· - 1) }) ∧
      t.vd.chans = s.vd.chans.map (fun c => { c with ramp := c.ramp.map (· - 1) }) ∧
      t.mbp.period = s.mbp.period.map (· - 1) ∧ t.mbp.recovery = s.mbp.recovery.map (· - 1) ∧
      t.sc.gate = s.sc.gate.map (· - 1) ∧ t.zt.edit = s.zt.edit.map (· - 1) ∧ t.gg.hold = s.gg.hold.map (· - 1) ∧
      t.ec.autoIdle = s.ec.autoIdle.map (· - 1) ∧ t.ec.shutdown = s.ec.shutdown.map (· - 1) ∧
      t.ec.wait = s.ec.wait.map (· - 1) ∧ t.vd.downQual = s.vd.downQual.map (· - 1) ∧
      t.vd.upQual = s.vd.upQual.map (· - 1) ∧ t.vd.duration = s.vd.duration.map (· - 1) ∧
      t.nu.red.flash = s.nu.red.flash.map (· - 1) ∧ t.nu.red.stretch = s.nu.red.stretch.map (· - 1) ∧
      t.nu.amber.flash = s.nu.amber.flash.map (· - 1) ∧ t.nu.amber.stretch = s.nu.amber.stretch.map (· - 1) ∧
      (s.metering = false → t.ec.partialMs = s.ec.partialMs ∧ t.ec.overMs = s.ec.overMs) ∧
      (s.metering = true → s.ec.partialMs < 35999 → t.ec.partialMs = s.ec.partialMs + 1 ∧ t.ec.overMs = s.ec.overMs) ∧
      (s.metering = true → 35999 ≤ s.ec.partialMs → t.ec.partialMs = s.ec.partialMs ∧ t.ec.overMs = s.ec.overMs + 1))

/-- O3. Every invariant below holds right after reset. -/
def Obligations.ResetMeetsInvariants : Prop :=
  let s := State.reset
  s.nu.Sound ∧ s.ret.MetersSound ∧ s.ret.ItemsSound ∧ s.TorqueSound ∧ s.DriveSound ∧ s.TargetsSound ∧ s.PosesSound ∧
    s.SlotsSound ∧ s.CountSound ∧ s.TimersSound ∧ s.TestSound ∧ s.Ready

/-- O4. A step ends with every report delivered, so that a running part is Ready again; and no step leaves the part running while
RESET_N is low (R185). -/
def Obligations.ReportsLeaveNoRest : Prop :=
  ∀ s t : State, s.inbox = [] → step s = .next t →
    t.inbox = [] ∧ ((s.phase = .running → s.pins.resetLow = false) → t.phase = .running → t.pins.resetLow = false)

/-! ### Reports, notices, lamps (chapter 9) -/

/-- O5. Taking a step's reports touches the Notice Unit alone; the Notice Set after them does not depend on the order that the
free value picks for reports of different identities (log entry 6); a single report is taken as it is. -/
def Obligations.ReportsReachNoticeUnit : Prop :=
  ∀ s : State,
    s.deliver = { s with nu := s.deliver.nu, choice := s.deliver.choice, inbox := [] } ∧
    s.deliver.nu.notices = noticesAfter s.inbox s.nu.notices ∧
    (∀ r, s.inbox = [r] → s.deliver = { s with nu := s.nu.take s.ret.settings.stretchMs r, inbox := [] })

/-- O6. The transitions of FOLLOW and HOLD notices (R147, R148), the HOLD identities being 0, 2..31, 45..52 and 54 (Table 9-1),
and of a retirement (R149). Every other notice stays as it was, through an acknowledgement too (R153). -/
def Obligations.NoticeTransitions : Prop :=
  ∀ (nu : Nu) (m n : Nat), nu.notices.length = 110 → n < 110 →
    let holds := n = 0 ∨ (2 ≤ n ∧ n ≤ 31) ∨ (45 ≤ n ∧ n ≤ 52) ∨ n = 54
    let x := noticeAt nu.notices n
    let after (r : Report) := noticeAt (nu.take m r).notices n
    let acked := noticeAt (nu.ackOne m n).notices n
    (¬holds →
      after (.condition n true) = ⟨if x.state = .clear then .raised else x.state, true⟩ ∧
      after (.condition n false) = ⟨.clear, false⟩ ∧
      (x.state = .raised → acked = { x with state := .acked })) ∧
    (holds →
      (∀ c, after (.cause n c) = ⟨.raised, c⟩) ∧
      after (.condition n false) = ⟨if x.state = .acked then .clear else x.state, false⟩ ∧
      (x.state = .raised → acked = { x with state := if x.cond then .acked else .clear })) ∧
    (∀ i, i < 24 →
      (n = 8 + i ∨ n = 58 + i ∨ n = 86 + i → after (.retirement i) = ⟨.clear, false⟩) ∧
      (n ≠ 8 + i ∧ n ≠ 58 + i ∧ n ≠ 86 + i → after (.retirement i) = x)) ∧
    (∀ k p, k ≠ n → after (.condition k p) = x ∧ after (.cause k p) = x ∧ noticeAt (nu.ackOne m k).notices n = x)

/-- O7. How the Notice List and the change flag follow any change of the Notice Set (R150, R151, R152): entries still RAISED
keep their order; behind them join RAISED notices in ascending number; one waits only while the list is full, and then with a
higher number than every one that joined; the change flag is set where a notice state or the list changed. A report, an
acknowledgement and ACK_ALL (R146, R153) each make such a change of the whole Notice Unit. -/
def Obligations.NoticeListChanges : Prop :=
  ∀ (nu : Nu) (m : Nat) (ns : List Notice), nu.Sound → ns.length = 110 →
    let t := nu.settle m ns
    t.notices = ns ∧
    (∃ joined, t.list = nu.list.filter (isRaised ns) ++ joined ∧ joined.Pairwise (· < ·) ∧
      (∀ n ∈ joined, n < 110 ∧ isRaised ns n = true ∧ n ∉ nu.list.filter (isRaised ns)) ∧
      (∀ n, n < 110 → isRaised ns n = true → n ∉ t.list → t.list.length = 8 ∧ ∀ k ∈ joined, k < n)) ∧
    (t.changed = true ↔
      nu.changed = true ∨ (∃ n, n < 110 ∧ (noticeAt ns n).state ≠ (noticeAt nu.notices n).state) ∨ t.list ≠ nu.list) ∧
    (∀ r, (nu.take m r).notices = applyReport r nu.notices ∧ nu.take m r = nu.settle m (nu.take m r).notices) ∧
    (∀ n, nu.ackOne m n = nu.settle m (nu.ackOne m n).notices) ∧ nu.ackEvery m = nu.settle m (nu.ackEvery m).notices

/-- O8. The lamp state that the notices of a lamp's severity give (R156), RED being 0..31 and AMBER 32..81 (Table 9-1), and the
lamp and status lines (R156, R158, R159): a lamp is lit in the lit phases of FLASHING, in STEADY and in STRETCH; a status line
is high while its function is active, or, with ACTIVE_LOW, while it is not; all four are low while the part does not run. -/
def Obligations.LampFollowsNotices : Prop :=
  (∀ (nu : Nu) (m : Nat) (ns : List Notice) (which : Lamp),
    let old := nu.lamp which
    let new := (nu.settle m ns).lamp which
    let own (n : Nat) : Prop := if which = .red then n < 32 else 32 ≤ n ∧ n < 82
    let raised := ∃ n, own n ∧ isRaised ns n = true
    let acked := ∃ n, own n ∧ isAcked ns n = true
    (raised → old.mode = .flashing → new = old) ∧
    (raised → old.mode ≠ .flashing → new = { mode := .flashing, lit := true, flash := some 500, stretch := none }) ∧
    (¬raised → acked → new = { mode := .steady, lit := true, flash := none, stretch := none }) ∧
    (¬raised → ¬acked → old.mode = .off ∨ old.mode = .stretch → new = old) ∧
    (¬raised → ¬acked → old.mode = .flashing ∨ old.mode = .steady →
      new = if m = 0 then { mode := .off, lit := false, flash := none, stretch := none }
        else { mode := .stretch, lit := true, flash := none, stretch := some m })) ∧
  ∀ s : State,
    let shines (l : LampState) : Prop := l.mode = .steady ∨ l.mode = .stretch ∨ (l.mode = .flashing ∧ l.lit = true)
    let r := s.slm.record
    let active (f : StatusFunction) : Prop :=
      match f with
      | .none => False
      | .slewBlocked => r.left = .blocked ∨ r.right = .blocked
      | .slewRestricted => r.left ≠ .opened ∨ r.right ≠ .opened
      | .floorReached => s.gg.floor.state = .atFloor
      | .onGrade => s.gg.guidance.state = .onGrade
      | .autoIdle => s.ec.state = .idling
      | .shutdownRequested => s.ec.state = .shutdownRequested
      | .anyRed => ∃ n, n < 32 ∧ (isRaised s.nu.notices n = true ∨ isAcked s.nu.notices n = true)
      | .anyService => ∃ it, some it ∈ s.ret.items ∧ it.state ≠ .counting
      | .valveFaultAny => ∃ c ∈ s.vd.chans, c.fault.isSome
    let high (f : StatusFunction) (activeLow : Bool) : Prop := s.phase = .running ∧ (active f ↔ activeLow = false)
    (s.lampRed = true ↔ s.phase = .running ∧ shines s.nu.red) ∧ (s.lampAmber = true ↔ s.phase = .running ∧ shines s.nu.amber) ∧
    (s.statusA = true ↔ high s.ret.settings.statusA s.ret.settings.statusALow) ∧
    (s.statusB = true ↔ high s.ret.settings.statusB s.ret.settings.statusBLow)

/-- O9. The Notice List stays in order through every step (R150, R151). -/
def Obligations.NoticeListKept : Prop :=
  ∀ s t : State, s.nu.Sound → step s = .next t → t.nu.Sound

/-! ### Invariants of every step -/

/-- O10. Neither meter decreases, except to zero when the contents are found lost at a power-on, and the weighted meter stays
between 50 and 150 times the engine meter (R122). -/
def Obligations.MetersKept : Prop :=
  ∀ s t : State, s.ret.MetersSound → step s = .next t →
    t.ret.MetersSound ∧
    ((s.ret.engineMeter ≤ t.ret.engineMeter ∧ s.ret.weightedMeter ≤ t.ret.weightedMeter) ∨
      (s.pending.head? = some .powerOn ∧ s.backupDropped = true ∧ t.ret.engineMeter = 0 ∧ t.ret.weightedMeter = 0))

/-- O11. The state that a progress gives, line by line, and every occupied item stands in it at all times (R130, R131). -/
def Obligations.ItemStatesKept : Prop :=
  (∀ interval lead grace p : Nat, lead ≤ interval →
    let st := itemStateOf interval lead grace p
    (p < interval - lead → st = .counting) ∧ (interval - lead ≤ p → p < interval → st = .due) ∧
    (interval ≤ p → p < interval + grace → st = .overdue) ∧ (interval + grace ≤ p → st = .critical)) ∧
  ∀ s t : State, s.ret.ItemsSound → step s = .next t → t.ret.ItemsSound

/-- O12. T is the least of its figures at all times (R118). -/
def Obligations.TorqueLimitKept : Prop :=
  ∀ s t : State, s.TorqueSound → step s = .next t → t.TorqueSound

/-- O13. Every commanded current stays 0 or between start current and Imax, and 0 on a FAULTED channel and under a LOW supply;
targets stay within Imax (R160 to R163), and T within 40..100 (R118). -/
def Obligations.CurrentInRangeKept : Prop :=
  ∀ s t : State, s.DriveSound → step s = .next t → t.DriveSound

/-- O14. Channels 0 and 1 hold the target of their direction state, channel 2 that of the floor record, channel 3 that of T,
each worked out from the configuration in force; the floor record's own target is the one that its state, or in HOLDING its
held state, its band and its distance give with Imax2 (R83, R84, R101, R119). -/
def Obligations.OwnerTargetsKept : Prop :=
  ∀ s t : State, s.TargetsSound → step s = .next t → t.TargetsSound

/-- O15. A pose carries x and y exactly when it is COMPLETE, and r and z exactly when it is not INVALID (R43). -/
def Obligations.PoseShapeKept : Prop :=
  ∀ s t : State, s.PosesSound → step s = .next t → t.PosesSound

/-- O16. A slot is DISABLED exactly while its identifier is absent, its timer runs as its state says, and a FRESH slot holds a
value (R2, R4). -/
def Obligations.SlotTimersKept : Prop :=
  ∀ s t : State, s.SlotsSound → step s = .next t → t.SlotsSound

/-- O17. The count stays in 0..CPR − 1 and the travel since index in 0..2 × CPR (R18, R20, R26). -/
def Obligations.CountKept : Prop :=
  ∀ s t : State, s.CountSound → step s = .next t → t.CountSound

/-- O18. The edit, hold, auto-idle, wait, shutdown and duration timers run in their states and in no other (R57, R99, R113,
R114, R171, R172). -/
def Obligations.TimersFollowStates : Prop :=
  ∀ s t : State, s.TimersSound → step s = .next t → t.TimersSound

/-- O19. A drive test runs only in STOPPED and IDLING and never of a FAULTED channel (R171, R172). -/
def Obligations.DriveTestGuarded : Prop :=
  ∀ s t : State, s.TestSound → step s = .next t → t.TestSound

/-- O20. While the table is CLOSED no step changes a zone or a sector, but for CLEAR_RETAINED and a power-on that finds the
contents lost, which leave the defaults (R61, R184, R186). -/
def Obligations.ClosedTableUnchanged : Prop :=
  ∀ s t : State, s.zt.isOpen = false → step s = .next t →
    (t.ret.zones = s.ret.zones ∧ t.ret.sectors = s.ret.sectors) ∨
    (s.clearsNext ∧ t.ret.zones = List.replicate 12 none ∧ t.ret.sectors = List.replicate 32 ⟨.free, false⟩)

/-- O21. While the service key is not asserted no step writes an item: basis, interval, lead, grace, stamp, times done, derate
and tag stand, but for a power-on that finds the contents lost (R136, R184). -/
def Obligations.ServiceKeyGuards : Prop :=
  ∀ s t : State, s.pins.keyAsserted = false → step s = .next t →
    t.ret.items.map (Option.map Item.written) = s.ret.items.map (Option.map Item.written) ∨
    (s.pending.head? = some .powerOn ∧ s.backupDropped = true ∧ t.ret.items = List.replicate 24 none)

/-! ### Arithmetic and encodings -/

/-- O22. Rnd(n / d) is nearest to the quotient, takes halves away from zero and is symmetric about zero (00, Rounding). -/
def Obligations.RndNearest : Prop :=
  ∀ (n : Int) (d : Nat), 0 < d →
    let r := rndDiv n d
    2 * (n - d * r).natAbs ≤ d ∧ (2 * (n - d * r).natAbs = d → n.natAbs < d * r.natAbs) ∧ rndDiv (-n) d = -r

/-- O23. The sine table: the entries that R38 lists, and the exact symmetries of the sine. -/
def Obligations.SineTableSymmetry : Prop :=
  ([0, 2048, 4096, 6144, 8192, 10240, 12288, 14336].map sineTable =
    [0, 23170, 32767, 23170, 0, -23170, -32767, -23170]) ∧
  (∀ a, a ≤ 8192 → sineTable (8192 - a) = sineTable a) ∧
  (∀ a, 1 ≤ a → a ≤ 16383 → sineTable (16384 - a) = -sineTable a) ∧
  (∀ a, a < 16384 → sinA a = sineTable a ∧ cosA a = sineTable ((a + 4096) % 16384))

/-- O24. Fields stand most significant byte first and, where signed, in two's complement (R182). -/
def Obligations.FieldsReadBack : Prop :=
  (∀ n v : Nat, v < 256 ^ n → (toBe n v).length = n ∧ beNat (toBe n v) = v) ∧
  (∀ (n : Nat) (v : Int), -(128 * 256 ^ n) ≤ v → v < 128 * 256 ^ n →
    (toBeInt (n + 1) v).length = n + 1 ∧ beInt (toBeInt (n + 1) v) = v) ∧
  (∀ n v : Nat, v < 256 ^ (n + 1) → toBe (n + 1) v = BitVec.ofNat 8 (v / 256 ^ n) :: toBe n (v % 256 ^ n)) ∧
  (∀ (n : Nat) (v : Int), toBeInt n v = toBe n (v % 256 ^ n).toNat)

/-- O25. The request frame of each request (Table 11-2), padded with zero bytes to at most 64, spells its command (R176, R181);
a frame that fails a check of the link spells none and is answered by the link itself with its own code byte, in the order
frame, request code, table, payload length: BAD_FRAME, BAD_REQUEST, BAD_TABLE, BAD_REQUEST (R176, R179). -/
def Obligations.RequestFramesSpellCommands : Prop :=
  let frame (code table index : Byte) (payload : List Byte) (pad : Nat) : List Byte :=
    [code, table, index, BitVec.ofNat 8 payload.length] ++ payload ++ List.replicate pad 0
  let refused (bytes : List Byte) (r : ResultCode) : Prop :=
    commandOf bytes = none ∧ linkAnswer bytes = some (.done (bytes.getD 0 0).toNat r [])
  let lengths : List (Nat × Nat) := [(1, 13), (2, 2), (3, 14), (4, 16), (5, 16), (6, 3), (7, 15), (8, 20), (9, 4)]
  (∀ (t i : Byte) (k : Nat), 1 ≤ t.toNat → t.toNat ≤ 9 → k ≤ 60 →
    commandOf (frame 1 t i [] k) = some (.readEntry t i) ∧
    commandOf (frame 3 t i [] k) = some (.retireEntry t i) ∧
    (t ≠ 9 → commandOf (frame 4 t i [] k) = some (.listTable t))) ∧
  (∀ (t i : Byte) (p : List Byte) (k : Nat), (t.toNat, p.length) ∈ lengths →
    p.length + k ≤ 60 → commandOf (frame 2 t i p k) = some (.putEntry t i p)) ∧
  (∀ (t i : Byte) (k : Nat), k ≤ 60 →
    commandOf (frame 5 t i [] k) = some .openZones ∧ commandOf (frame 6 t i [] k) = some .closeZones ∧
    commandOf (frame 7 t i [] k) = some (.selectTarget i) ∧ commandOf (frame 8 t i [] k) = some (.setWorkMode i) ∧
    commandOf (frame 9 t i [] k) = some (.serviceDone i) ∧ commandOf (frame 10 t i [] k) = some .ackHead ∧
    commandOf (frame 11 t i [] k) = some (.ackNotice i) ∧ commandOf (frame 12 t i [] k) = some .ackAll ∧
    commandOf (frame 13 t i [] k) = some .readNotices ∧ commandOf (frame 14 t i [] k) = some .readPose ∧
    commandOf (frame 15 t i [] k) = some .readGuidance ∧ commandOf (frame 16 t i [] k) = some .readLimits ∧
    commandOf (frame 17 t i [] k) = some .readEconomy ∧ commandOf (frame 18 t i [] k) = some .clearShift ∧
    commandOf (frame 19 t i [] k) = some .readDrive ∧ commandOf (frame 20 t i [] k) = some (.clearValveFault i) ∧
    commandOf (frame 22 t i [] k) = some .driveTestStop ∧ commandOf (frame 23 t i [] k) = some .clearRetained ∧
    commandOf (frame 24 t i [] k) = some .restart) ∧
  (∀ (t i a b c d : Byte) (k : Nat), k ≤ 56 →
    commandOf (frame 21 t i [a, b, c, d] k) = some (.driveTest i (a ++ b) (c ++ d))) ∧
  (∀ bytes : List Byte,
    let n := (bytes.getD 3 0).toNat
    bytes.getD 0 0 ≠ 0 → bytes.length < 4 ∨ 60 < n ∨ bytes.length < 4 + n ∨ 64 < bytes.length ∨
      (∃ k, 4 + n ≤ k ∧ k < bytes.length ∧ bytes.getD k 0 ≠ 0) → refused bytes .badFrame) ∧
  (∀ (c t i : Byte) (p : List Byte) (k : Nat), p.length + k ≤ 60 →
    (24 < c.toNat → refused (frame c t i p k) .badRequest) ∧
    (1 ≤ c.toNat → c.toNat ≤ 4 → t = 0 ∨ 9 < t.toNat → refused (frame c t i p k) .badTable) ∧
    (c = 4 → t = 9 → refused (frame c t i p k) .badTable) ∧
    (1 ≤ t.toNat → t.toNat ≤ 9 →
      (c = 2 → (t.toNat, p.length) ∉ lengths → refused (frame c t i p k) .badRequest) ∧
      (c = 1 ∨ c = 3 ∨ (c = 4 ∧ t ≠ 9) → p ≠ [] → refused (frame c t i p k) .badRequest)) ∧
    (5 ≤ c.toNat → c.toNat ≤ 24 → c ≠ 21 → p ≠ [] → refused (frame c t i p k) .badRequest) ∧
    (c = 21 → p.length ≠ 4 → refused (frame c t i p k) .badRequest))

/-! ### Zones, limits, floors, torque: what an evaluation finds -/

/-- O26. The point class (R55), zones applying as R54 gives, a quantity absent from the pose counting as met. -/
def Obligations.PointClassPrecedence : Prop :=
  ∀ (ret : Retained) (p : Pose) (q : Nat), q < 16384 →
    let sec := ret.sectors.getD (q / 512) ⟨.free, false⟩
    let met (z : Zone) : Prop :=
      match z.condition with
      | .always => True
      | .tipAbove => ∀ h ∈ p.z, ∀ l ∈ z.limit, l < h
      | .tipBelow => ∀ h ∈ p.z, ∀ l ∈ z.limit, h < l
      | .reachBeyond => ∀ r ∈ p.r, ∀ l ∈ z.limit, l < r
    let applies (z : Zone) : Prop :=
      some z ∈ ret.zones ∧ z.active = true ∧ ((q : Int) - z.start) % 16384 < z.width ∧ met z
    let firmHere := ret.settings.sectorMap = true ∧ sec.firm = true
    (firmHere → pointClass ret p q = sec.cls) ∧
    (¬firmHere → (∃ z, applies z) →
      (∃ z, applies z ∧ pointClass ret p q = z.cls) ∧ ∀ z, applies z → z.cls.rank ≤ (pointClass ret p q).rank) ∧
    (¬firmHere → (¬∃ z, applies z) →
      pointClass ret p q = if ret.settings.sectorMap then sec.cls else ret.settings.defaultClass)

/-- O27. The direction states of an evaluation whose φ is in no STOP point (R75 to R80): with limiting OFF both OPEN; without an
angle, or with the table OPEN, both as the governing class; else each as the most restrictive point class of its own look-ahead
arc, whose length is the stopping arc on the side of motion and the margin on the other. -/
def Obligations.LookAheadDirections : Prop :=
  ∀ (ret : Retained) (isOpen : Bool) (p : Pose), ret.settings.margin ≤ 2048 → (∀ phi ∈ p.phi, phi < 16384) →
    let x := ret.settings
    let lr := limitRecord ret isOpen p
    let pc := pointClass ret p
    let given (c : Cls) : DirState := if c = .stop then .blocked else if c = .slow then .limited else .opened
    let worst (c : Cls) (n : Nat) (at' : Nat → Nat) : Prop :=
      (∀ k, k ≤ n → (pc (at' k)).rank ≤ c.rank) ∧ ∃ k, k ≤ n ∧ pc (at' k) = c
    let flat (b : Basis) (g : Option Cls) (d : DirState) : LimitRecord :=
      { seq := p.seq, basis := b, governing := g, left := d, right := d, leftLength := none, rightLength := none,
        leftClass := none, rightClass := none, leftEscape := none, rightEscape := none }
    (x.zoneLimiting = false → lr = flat .zonesOff none .opened) ∧
    (x.zoneLimiting = true → p.phi = none → isOpen = false → lr = flat .noAngle (some x.noAngleClass) (given x.noAngleClass)) ∧
    (x.zoneLimiting = true → p.phi = none → isOpen = true →
      ∃ g, lr = flat .noAngle (some g) (given g) ∧ (g = x.noAngleClass ∨ g = x.holdClass) ∧
        x.noAngleClass.rank ≤ g.rank ∧ x.holdClass.rank ≤ g.rank) ∧
    (x.zoneLimiting = true → p.phi.isSome → isOpen = true → lr = flat .editHold (some x.holdClass) (given x.holdClass)) ∧
    (∀ phi, x.zoneLimiting = true → p.phi = some phi → isOpen = false → pc phi ≠ .stop →
      let s := min 8192 ((rndDiv (p.omega * p.omega) (2 * x.decel)).toNat + x.margin)
      let ll := if (x.still : Int) < p.omega then s else x.margin
      let rl := if p.omega < -(x.still : Int) then s else x.margin
      ∃ lc rc, lr =
          { seq := p.seq, basis := .lookAhead, governing := none, left := given lc, right := given rc, leftLength := some ll,
            rightLength := some rl, leftClass := some lc, rightClass := some rc, leftEscape := none, rightEscape := none } ∧
        worst lc ll (fun k => (phi + k) % 16384) ∧ worst rc rl (fun k => (phi + 16384 - k) % 16384))

/-- O28. Inside a STOP region (R81, R82): the escape distance of a direction is the least number of steps to a point that is
not STOP, absent where there is none within half a turn; both are absent exactly when the whole circle is STOP; the direction
states follow from the two distances; both arc classes are STOP, the lengths are those of R78 and R79, and never are both
directions OPEN. -/
def Obligations.EscapeFromStopRegion : Prop :=
  ∀ (ret : Retained) (p : Pose) (phi : Nat), ret.settings.zoneLimiting = true → p.phi = some phi → phi < 16384 →
    pointClass ret p phi = .stop →
    let x := ret.settings
    let s := min 8192 ((rndDiv (p.omega * p.omega) (2 * x.decel)).toNat + x.margin)
    let lr := limitRecord ret false p
    let left (k : Nat) := pointClass ret p ((phi + k) % 16384)
    let right (k : Nat) := pointClass ret p ((phi + 16384 - k) % 16384)
    (∀ k, lr.leftEscape = some k ↔ 1 ≤ k ∧ k ≤ 8192 ∧ left k ≠ .stop ∧ ∀ j, 1 ≤ j → j < k → left j = .stop) ∧
    (∀ k, lr.rightEscape = some k ↔ 1 ≤ k ∧ k ≤ 8192 ∧ right k ≠ .stop ∧ ∀ j, 1 ≤ j → j < k → right j = .stop) ∧
    (lr.leftEscape = none ↔ ∀ k, 1 ≤ k → k ≤ 8192 → left k = .stop) ∧
    (lr.rightEscape = none ↔ ∀ k, 1 ≤ k → k ≤ 8192 → right k = .stop) ∧
    (lr.leftEscape = none ∧ lr.rightEscape = none ↔ ∀ q, q < 16384 → pointClass ret p q = .stop) ∧
    lr.seq = p.seq ∧ lr.governing = none ∧
    lr.leftLength = some (if (x.still : Int) < p.omega then s else x.margin) ∧
    lr.rightLength = some (if p.omega < -(x.still : Int) then s else x.margin) ∧
    lr.basis = .escape ∧ lr.leftClass = some .stop ∧ lr.rightClass = some .stop ∧
    (∀ l r, lr.leftEscape = some l → lr.rightEscape = some r →
      (l < r → lr.left = .limited ∧ lr.right = .blocked) ∧ (r < l → lr.left = .blocked ∧ lr.right = .limited) ∧
      (l = r → lr.left = .limited ∧ lr.right = .limited)) ∧
    (lr.leftEscape.isSome → lr.rightEscape = none → lr.left = .limited ∧ lr.right = .blocked) ∧
    (lr.leftEscape = none → lr.rightEscape.isSome → lr.left = .blocked ∧ lr.right = .limited) ∧
    (lr.leftEscape = none → lr.rightEscape = none → lr.left = .blocked ∧ lr.right = .blocked)

/-- O29. One evaluation of the Slew Limiter: the record, the two targets, the engaged flags and the three conditions (R68, R83,
R85); nothing else changes. -/
def Obligations.LimitsEvaluated : Prop :=
  ∀ s : State,
    let lr := limitRecord s.ret s.zt.isOpen s.slm.held
    let target (ch : Nat) (d : DirState) : Nat :=
      if d = .blocked then (s.ret.config ch).imax else if d = .limited then (s.ret.config ch).slow.getD 0 else 0
    s.evaluateLimits =
      { s with
        slm := { s.slm with record := lr }
        zt := { s.zt with engaged := s.evaluateLimits.zt.engaged }
        vd := (s.vd.hand 0 (target 0 lr.left)).hand 1 (target 1 lr.right)
        inbox := s.inbox ++
          [.condition 32 (decide (lr.left = .blocked ∨ lr.right = .blocked)),
           .condition 57 (decide (lr.left = .limited ∨ lr.right = .limited)),
           .condition 82 (decide (lr.leftClass = some .warn ∨ lr.rightClass = some .warn))] } ∧
    (lr.leftLength = none → ∀ i, s.evaluateLimits.zt.engaged.getD i false = false) ∧
    (∀ i phi ll rl, s.slm.held.phi = some phi → lr.leftLength = some ll → lr.rightLength = some rl → ll ≤ 8192 → rl ≤ 8192 →
      (s.evaluateLimits.zt.engaged.getD i false = true ↔
        ∃ z, s.ret.zones.getD i none = some z ∧ z.active = true ∧ zoneHolds z s.slm.held = true ∧
          ((∃ k, k ≤ ll ∧ ((phi : Int) + k - z.start) % 16384 < z.width) ∨
            ∃ k, k ≤ rl ∧ ((phi : Int) - k - z.start) % 16384 < z.width)))

/-- O30. The floor record of an evaluation. A COMPLETE pose gives the least distance over the applicable floors, the lowest index
that gives it, and the state and target that follow, and stops the hold (R89, R98); a pose that is not COMPLETE gives NONE where
no ACTIVE FLOOR exists, and else enters HOLDING for 500 ms, stays there, or stays UNAVAILABLE (R99). One evaluation replaces
both records and the hold, hands channel 2 its target and reports the three conditions, and changes nothing else (R96, R101,
R102). -/
def Obligations.FloorDecidesLeast : Prop :=
  (∀ (ret : Retained) (p : Pose) (old : FloorRecord) (hold : Timer) (phi : Nat) (x y z : Int), p.quality = .complete →
    p.phi = some phi → p.x = some x → p.y = some y → p.z = some z →
    let f := floorNext ret p old
    let band := ret.settings.floorBand
    let imax := (ret.config 2).imax
    let applies (i : Nat) (g : Surface) : Prop :=
      ret.surfaces.getD i none = some g ∧ g.active = true ∧ g.kind = .floor ∧ ((phi : Int) - g.start) % 16384 < g.width
    let distance (g : Surface) : Int := z - (g.h0 + rndDiv (g.sx * x + g.sy * y) 1000)
    holdNext ret p old hold = none ∧
    ((¬∃ i g, applies i g) → f = { state := .none, held := none, index := none, dF := none, band := none, target := 0 }) ∧
    ((∃ i g, applies i g) → ∃ i g, applies i g ∧
      (∀ j h, applies j h → distance g ≤ distance h ∧ (distance h = distance g → i ≤ j)) ∧
      f.held = none ∧ f.index = some i ∧ f.dF = some (distance g) ∧ f.band = some band ∧
      (distance g ≤ 0 → f.state = .atFloor ∧ f.target = imax) ∧
      (0 < distance g → distance g < band →
        f.state = .near ∧ (f.target : Int) = rndDiv (imax * (band - distance g)) band) ∧
      (0 < distance g → (band : Int) ≤ distance g → f.state = .clear ∧ f.target = 0))) ∧
  (∀ (ret : Retained) (p : Pose) (old : FloorRecord) (hold : Timer), p.quality ≠ .complete →
    let f := floorNext ret p old
    let h := holdNext ret p old hold
    let exists' := ∃ g, some g ∈ ret.surfaces ∧ g.active = true ∧ g.kind = .floor
    (¬exists' → f = { state := .none, held := none, index := none, dF := none, band := none, target := 0 } ∧ h = none) ∧
    (exists' → old.state = .none ∨ old.state = .clear ∨ old.state = .near ∨ old.state = .atFloor →
      f = { old with state := .holding, held := some old.state } ∧ h = some 500) ∧
    (exists' → old.state = .holding → f = old ∧ h = hold) ∧
    (exists' → old.state = .unavailable → f = old ∧ h = none)) ∧
  ∀ s : State,
    let f := floorNext s.ret s.gg.held s.gg.floor
    s.evaluateGrade = { s with
      gg := { held := s.gg.held, guidance := guidanceOf s.ret s.gg.held, floor := f
              hold := holdNext s.ret s.gg.held s.gg.floor s.gg.hold }
      vd := s.vd.hand 2 f.target
      inbox := s.inbox ++ floorConditions f }

/-- O31. The Guidance record (R97): the first line that fits decides the state, and d is present in ABOVE, ON_GRADE and BELOW. -/
def Obligations.GuidanceFirstFit : Prop :=
  ∀ (ret : Retained) (p : Pose),
    let g := guidanceOf ret p
    let band : Int := ret.settings.onGradeBand
    g.seq = p.seq ∧ g.target = ret.selection ∧
    (ret.selection = none → g.state = .noTarget ∧ g.d = none) ∧
    (∀ i, ret.selection = some i → p.quality ≠ .complete → g.state = .noPose ∧ g.d = none) ∧
    (∀ i f, ret.selection = some i → ret.surfaces.getD i none = some f →
      (∀ phi x y z, p.quality = .complete → p.phi = some phi → p.x = some x → p.y = some y → p.z = some z →
        let d := z - (f.h0 + rndDiv (f.sx * x + f.sy * y) 1000)
        (¬((phi : Int) - f.start) % 16384 < f.width → g.state = .outside ∧ g.d = none) ∧
        (((phi : Int) - f.start) % 16384 < f.width →
          g.d = some d ∧ (band < d → g.state = .above) ∧ (-band ≤ d → d ≤ band → g.state = .onGrade) ∧
            (d < -band → g.state = .below))))

/-- O32. The torque limit is a least figure (R118): it is at most each of its figures, and it is one of them; the base torque
is the selected mode's in WORKING and SETTLING and the idle torque elsewhere (R116). -/
def Obligations.TorqueIsLeastFigure : Prop :=
  ∀ (ret : Retained) (st : EconomyState) (latch : Bool),
    let t := torqueLimit ret st latch
    let base :=
      if st = .working ∨ st = .settling then (ret.mode ret.selectedMode).torque else ret.settings.idleTorque
    let derates (d : Nat) : Prop := ∃ it, some it ∈ ret.items ∧ it.state = .critical ∧ it.derate = some d
    t ≤ base ∧ (latch = true → t ≤ ret.settings.oilTorque) ∧ (∀ d, derates d → t ≤ d) ∧
      (t = base ∨ (latch = true ∧ t = ret.settings.oilTorque) ∨ derates t)

/-- O33. The Pose record of a recompute (R39 to R44): its quality from the held inputs, and r, z, x and y from the sensor words
by the four stages. -/
def Obligations.PoseComputed : Prop :=
  ∀ (g : Geometry) (pu : Pu) (wb ws wk : Int),
    let p := poseOf g pu wb ws wk
    let fresh := pu.links = [.fresh, .fresh, .fresh]
    let angle (w o : Int) : Nat := (((w + 2) / 4 % 16384 + o) % 16384).toNat
    let part (l : Int) (t : Int) : Int := rndDiv (l * t) 32768
    p.seq = (pu.pose.seq + 1) % 65536 ∧ p.omega = pu.gateOmega ∧
    p.phi = (if pu.gateRef then some pu.gatePhi else none) ∧
    ((g.dims = none ∨ ¬fresh) → p.quality = .invalid ∧ p.r = none ∧ p.z = none ∧ p.x = none ∧ p.y = none) ∧
    (∀ d, g.dims = some d → fresh →
      let r := d.fr + part d.lb (cosA (angle wb d.ob)) + part d.ls (cosA (angle ws d.os)) + part d.lk (cosA (angle wk d.ok))
      let z := d.fz + part d.lb (sinA (angle wb d.ob)) + part d.ls (sinA (angle ws d.os)) + part d.lk (sinA (angle wk d.ok))
      p.r = some r ∧ p.z = some z ∧
      (pu.gateRef = false → p.quality = .noSlew ∧ p.x = none ∧ p.y = none) ∧
      (pu.gateRef = true → p.quality = .complete ∧ p.x = some (part r (cosA pu.gatePhi)) ∧
        p.y = some (part r (sinA pu.gatePhi))))

/-! ### The Slew Counter (chapter 2) -/

/-- O34. STEP (R20, R21, R26): a change to the next pair of the cycle is a LEFT step, to the one before it a RIGHT step, and any
other change gives none. A step that takes the travel since index above 2 × CPR unreferences the counter. -/
def Obligations.StepMovesCount : Prop :=
  ∀ (s : State) (a b : Bool) (i : Nat), s.Ready → s.CountSound → i < 4 →
    let cycle : List (Bool × Bool) := [(false, false), (true, false), (true, true), (false, true)]
    let cpr := s.ret.settings.cpr
    let moved (count : Nat) (way : Int) : State :=
      { s with
        pins := { s.pins with slewA := a, slewB := b }
        sc := { s.sc with count := count, travel := s.sc.travel + 1, gateAcc := s.sc.gateAcc + way } }
    let missed (t : State) : State :=
      { t with sc := { t.sc with travel := 0, referenced := false }, inbox := [.cause 7 false, .condition 35 true] }
    let after (t : State) : State := if s.sc.travel < 2 * cpr then t else (missed t).deliver
    (s.pins.slewA, s.pins.slewB) = cycle.getD i (false, false) →
    ((a, b) = cycle.getD ((i + 1) % 4) (false, false) →
      exec (.slewStep a b) s = .next (after (moved (if s.sc.count + 1 = cpr then 0 else s.sc.count + 1) 1))) ∧
    ((a, b) = cycle.getD ((i + 3) % 4) (false, false) →
      exec (.slewStep a b) s = .next (after (moved (if s.sc.count = 0 then cpr - 1 else s.sc.count - 1) (-1)))) ∧
    ((a, b) = cycle.getD i (false, false) ∨ (a, b) = cycle.getD ((i + 2) % 4) (false, false) →
      exec (.slewStep a b) s = .next { s with pins := { s.pins with slewA := a, slewB := b } })

/-- O35. INDEX_MARK and SLEW_Z_FALL (R23, R27): the mark loads the count and references the counter; on a referenced counter a
count farther from the index position than the slip tolerance, the nearer way round, is a slip. A high SLEW_Z gives no mark. -/
def Obligations.IndexMarkLoadsCount : Prop :=
  ∀ s : State, s.Ready → s.CountSound →
    let x := s.ret.settings
    let e := (s.sc.count + x.cpr - x.indexPos) % x.cpr
    let far : Nat := if 2 * e ≤ x.cpr then e else x.cpr - e
    let t : State :=
      { s with
        pins := { s.pins with slewZ := true }
        sc := { s.sc with count := x.indexPos, referenced := true, travel := 0 } }
    (s.pins.slewZ = false → s.sc.referenced = false →
      exec .indexMark s = .next ({ t with inbox := [.condition 35 false] }).deliver) ∧
    (s.pins.slewZ = false → s.sc.referenced = true → far ≤ x.slipTol → exec .indexMark s = .next t) ∧
    (s.pins.slewZ = false → s.sc.referenced = true → x.slipTol < far →
      exec .indexMark s = .next ({ t with inbox := [.cause 6 false] }).deliver) ∧
    (s.pins.slewZ = true → exec .indexMark s = .next s) ∧
    exec .slewZFall s = .next { s with pins := { s.pins with slewZ := false } }

/-- O36. GATE_TIMER_EXPIRY. The gate gives the slew speed and the run (R28, R30) and publishes them (R29): a pose recomputed from it
and held by its receivers, each of which evaluates it (R45, R47; 05 R73, 06 R96), the detector moved and a dig cycle sent
(R48); the speed and the still threshold at the Economy Controller, whose activity begins or ends (R110, R111, R113); a reversal
(R31); each of the two adding a cycle to the items on its basis (R133). The notices are those after the reports of all these
(R85, R102, R115, R134). The count and the reference state that go out are the
present ones, or, where a write that changes CPR or the index position waits directly behind, those after that write (R19).
The model's choices: the time the timer has left passes first (log entry 2), a first run is held to CPR (log entry 25), the
speed is judged by the threshold of its gate (log entry 32), and a write falls together with the expiry when it waits directly
behind it (log entry 33). -/
def Obligations.GateClosesAndPublishes : Prop :=
  ∀ (s : State) (left count : Nat) (referenced : Bool), s.Ready → s.CountSound → s.vd.chans.length = 4 → s.sc.gate = some left →
    let x := s.ret.settings
    let u := s.elapse left
    let behind : Prop := ∃ c rest, s.pending = c :: rest ∧
      ((∃ v : Int, -2147483648 ≤ v ∧ v ≤ 2147483647 ∧
          ((c = .putEntry 9 3 (toBeInt 4 v) ∧ max 1000 (min 1000000 v) ≠ x.cpr) ∨
            (c = .putEntry 9 4 (toBeInt 4 v) ∧ max 0 (min ((x.cpr : Int) - 1) v) ≠ x.indexPos))) ∨
        (c = .retireEntry 9 3 ∧ x.cpr ≠ 36000) ∨ (c = .retireEntry 9 4 ∧ x.indexPos ≠ 0) ∨
        (c = .clearRetained ∧ s.pins.keyAsserted = true ∧ s.ec.state = .stopped ∧ (x.cpr ≠ 36000 ∨ x.indexPos ≠ 0)))
    let omega : Int := max (-32767) (min 32767 (rndDiv (s.sc.gateAcc * 1638400) x.cpr))
    let dir : RunDir := if (x.still : Int) < omega then .left else if omega < -(x.still : Int) then .right else .none
    let reversal : Bool := decide (dir ≠ .none ∧ s.sc.runDir ≠ .none ∧ dir ≠ s.sc.runDir ∧
      (x.minSwing : Int) ≤ rndDiv ((s.sc.runCount : Int) * 16384) x.cpr)
    let pose := poseOf s.ret.geometry
      { s.pu with gatePhi := count * 16384 / x.cpr, gateRef := referenced, gateOmega := omega }
      (s.linkWord 0) (s.linkWord 1) (s.linkWord 2)
    let dig : Bool := s.pu.detector == .waitDump && pose.z.any (fun z => decide (s.ret.geometry.dump < z))
    let lever : Prop := ∃ v, s.ec.copies.getD 4 ⟨.disabled, none⟩ = ⟨.fresh, some v⟩ ∧ v ≤ x.pilotThreshold
    let active : Prop := ¬lever ∨ x.still < omega.natAbs
    let begins : Prop := active ∧ s.ec.active = false ∧ (s.ec.state = .settling ∨ s.ec.state = .idling)
    let ends : Prop := ¬active ∧ s.ec.active = true ∧ s.ec.state = .working ∧ x.autoIdleDelay ≠ 0
    (behind → count = 0 ∧ referenced = false) → (¬behind → count = s.sc.count ∧ referenced = s.sc.referenced) →
    ∃ t, exec .gateTimerExpiry s = .next t ∧
      (let reported (moves : List Report) : Prop :=
         t.nu.notices = noticesAfter (limitConditions t.slm.record ++ floorConditions t.gg.floor ++
           itemsConditions (· == .digCycles) s.ret.items t.ret.items ++ moves ++
           itemsConditions (· == .slewReversals) s.ret.items t.ret.items) s.nu.notices
       (begins ∨ ends → reported [.condition 85 false, .condition 55 false]) ∧ (¬begins → ¬ends → reported [])) ∧
      t.sc = { s.sc with
        gateAcc := 0, gate := some 10, omega := omega
        runDir := if dir = .none then s.sc.runDir else dir
        runCount :=
          if dir = .none then s.sc.runCount
          else if dir = s.sc.runDir then min x.cpr (s.sc.runCount + s.sc.gateAcc.natAbs)
          else min x.cpr s.sc.gateAcc.natAbs } ∧
      t.pu = { s.pu with
        gatePhi := count * 16384 / x.cpr, gateRef := referenced, gateOmega := omega, pose := pose
        detector :=
          if dig then .waitDig
          else if s.pu.detector = .waitDig ∧ pose.z.any (fun z => decide (z < s.ret.geometry.dig)) then .waitDump
          else s.pu.detector } ∧
      t.slm = { held := pose, record := limitRecord s.ret s.zt.isOpen pose } ∧
      t.zt.engaged = engagedFlags s.ret pose t.slm.record ∧
      t.gg = { held := pose, guidance := guidanceOf s.ret pose, floor := floorNext s.ret pose s.gg.floor
               hold := holdNext s.ret pose s.gg.floor u.gg.hold } ∧
      (begins → t.ec.state = .working ∧ t.ec.autoIdle = none ∧ t.ec.shutdown = none ∧ t.ec.wait = none ∧
        t.vd.test = none ∧ t.vd.duration = none) ∧
      (ends → t.ec.state = .settling ∧ t.ec.autoIdle = some (x.autoIdleDelay * 1000) ∧ t.ec.shutdown = none ∧
        t.ec.wait = none ∧ t.vd.test = none ∧ t.vd.duration = none) ∧
      (¬begins → ¬ends → t.ec.state = s.ec.state ∧ t.ec.autoIdle = u.ec.autoIdle ∧ t.ec.shutdown = u.ec.shutdown ∧
        t.ec.wait = u.ec.wait ∧ t.vd.test = s.vd.test ∧ t.vd.duration = u.vd.duration) ∧
      (t.ec.active = true ↔ active) ∧
      t.ec = { u.ec with
        omega := omega, gateStill := x.still, active := t.ec.active, state := t.ec.state, autoIdle := t.ec.autoIdle
        shutdown := t.ec.shutdown, wait := t.ec.wait, torque := t.ec.torque } ∧
      (∀ i, (s.ret.item i = none → t.ret.item i = none) ∧ ∀ it, s.ret.item i = some it →
        let more := (it.basis = .slewReversals ∧ reversal = true) ∨ (it.basis = .digCycles ∧ dig = true)
        let cycles := it.cycles.map (fun n => min 4294967295 (n + 1))
        (more → t.ret.item i = some { it with
          cycles := cycles, state := itemStateOf it.interval it.lead it.grace (cycles.getD 0) }) ∧
        (¬more → t.ret.item i = some it)) ∧
      (∀ ch, ch < 4 → t.vd.chan ch = { u.vd.chan ch with owner := (t.vd.chan ch).owner }) ∧
      (t.vd.chan 0).owner = slewTarget (s.ret.config 0) t.slm.record.left ∧
      (t.vd.chan 1).owner = slewTarget (s.ret.config 1) t.slm.record.right ∧ (t.vd.chan 2).owner = t.gg.floor.target ∧
      t = { u with
        ret := { s.ret with items := t.ret.items }
        sc := t.sc, pu := t.pu, slm := t.slm, gg := t.gg, ec := t.ec, nu := t.nu, choice := t.choice
        vd := { u.vd with chans := t.vd.chans, test := t.vd.test, duration := t.vd.duration }
        zt := { u.zt with engaged := t.zt.engaged } }

/-! ### The Machine Bus Port (chapter 1) -/

/-- O37. FRAME_ARRIVAL (R1, R3 to R5, R7, R8): a frame that is no 29-bit data frame of another node reaches no slot; any other is
sampled by every slot that holds its identifier, a plausible sample being accepted, which ends SOURCE_LOST of a STALE slot, and an
implausible one refused, the consumer being told of each change of state. Where one slot alone holds the identifier, the notices
are those after what it and its consumer report; a change of state of a link slot publishes a pose (R45, R47); and a sample for the
Economy Controller does what chapter 7 says: PUMP_PRESSURE is added while metering runs (R121), ENGINE_SPEED judges the engine
(R110, R112, R115), FUEL_RATE is integrated (R123), HYD_OIL_TEMP judges the latch and its notice 56 (R117), PILOT_PRESSURE judges
the activity (R111, R113). Of a frame that feeds several slots the statement says the slots and their SOURCE notices, not what their
consumers make of it: the order among the slots is the model's choice and free (log entry 7). The model's reading: PILOT_PRESSURE
judges the speed of the latest gate by the still threshold of that gate (log entry 32). -/
def Obligations.FrameSamplesSlots : Prop :=
  ∀ (f : CanFrame) (s : State), s.Ready → s.SlotsSound → s.nu.notices.length = 110 → s.ec.copies.length = 5 →
    s.pu.links.length = 3 →
    ((f.extended = false ∨ f.remote = true ∨ f.own = true) → exec (.frameArrival f) s = .next s) ∧
    (f.extended = true → f.remote = false → f.own = false → ∃ t, exec (.frameArrival f) s = .next t ∧
      t = { s with
        ret := { s.ret with items := t.ret.items, shift := { s.ret.shift with fuel := t.ret.shift.fuel } }
        mbp := { s.mbp with slots := t.mbp.slots }
        pu := t.pu, slm := t.slm, gg := t.gg, ec := t.ec, nu := t.nu, vd := t.vd, choice := t.choice
        zt := { s.zt with engaged := t.zt.engaged } } ∧
      ∀ i, i < 8 →
        let x := s.ret.settings
        let e := s.ec
        let old := s.slot i
        let src := s.source i
        let data (k : Nat) : Nat := (f.data.getD k 0).toNat
        let w : Nat := if src.order = .lowFirst then data src.offset + 256 * data (src.offset + 1)
          else 256 * data src.offset + data (src.offset + 1)
        let v : Int := if i = 6 ∧ 32768 ≤ w then (w : Int) - 65536 else w
        let plausible := src.offset + 2 ≤ min f.dlc 8 ∧ src.lo ≤ v ∧ v ≤ src.hi
        let alone := ∀ j, j < 8 → j ≠ i → (s.source j).identifier ≠ some f.ident
        let new := (t.slot i).state
        let told : List Report :=
          if i < 3 then
            (if new = old.state then []
             else limitConditions t.slm.record ++ floorConditions t.gg.floor ++
               itemsConditions (· == .digCycles) s.ret.items t.ret.items)
          else if i = 6 then (if t.ec.oilLatch = e.oilLatch then [] else [.condition 56 t.ec.oilLatch])
          else if t.ec.state = e.state then [] else [.condition 85 false, .condition 55 false]
        let heard (own : List Report) : Prop := t.nu.notices = noticesAfter (own ++ told) s.nu.notices
        let moved (st : EconomyState) (auto : Timer) : Prop :=
          t.ec.state = st ∧ t.ec.autoIdle = auto ∧ t.ec.shutdown = none ∧ t.ec.wait = none
        let stayed := t.ec.state = e.state ∧ t.ec.autoIdle = e.autoIdle ∧ t.ec.shutdown = e.shutdown ∧ t.ec.wait = e.wait
        (src.identifier ≠ some f.ident → t.slot i = old) ∧
        (src.identifier = some f.ident → plausible →
          t.slot i = { state := .fresh, lastGood := some v, lastTime := some s.now, timer := some src.timeout } ∧
          (old.state = .stale → noticeAt t.nu.notices (37 + i) = ⟨.clear, false⟩) ∧
          (3 ≤ i → t.ec.copies.getD (i - 3) ⟨.disabled, none⟩ = ⟨.fresh, some v⟩) ∧
          (i < 3 → old.state ≠ .fresh → t.pu.links.getD i .disabled = .fresh)) ∧
        (src.identifier = some f.ident → ¬plausible →
          t.slot i = { old with state := if old.state = .stale then .stale else .implausible } ∧
          isRaised t.nu.notices (45 + i) = true ∧
          (old.state ≠ .stale → old.state ≠ .implausible →
            (3 ≤ i → t.ec.copies.getD (i - 3) ⟨.disabled, none⟩ = ⟨.implausible, old.lastGood⟩) ∧
            (i < 3 → t.pu.links.getD i .disabled = .implausible))) ∧
        (src.identifier = some f.ident → alone →
          (plausible → heard (if old.state = .stale then [.condition (37 + i) false] else [])) ∧
          (¬plausible → heard [.cause (45 + i) false]) ∧
          (i < 3 → new ≠ old.state →
            let p := poseOf s.ret.geometry { s.pu with links := s.pu.links.set i new } (t.linkWord 0) (t.linkWord 1) (t.linkWord 2)
            t.pu.pose = p ∧ t.slm = { held := p, record := limitRecord s.ret s.zt.isOpen p } ∧
              t.gg = { held := p, guidance := guidanceOf s.ret p, floor := floorNext s.ret p s.gg.floor
                       hold := holdNext s.ret p s.gg.floor s.gg.hold }) ∧
          (¬plausible → i = 7 → new ≠ old.state →
            t.ec.active = true ∧
            (e.active = false → e.state = .settling ∨ e.state = .idling → moved .working none) ∧
            (e.active = true ∨ (e.state ≠ .settling ∧ e.state ≠ .idling) → stayed))) ∧
        (src.identifier = some f.ident → plausible → alone →
          (i = 3 → t.ec = { e with
            copies := t.ec.copies
            pumpSum := if s.metering then e.pumpSum + v else e.pumpSum
            pumpCount := if s.metering then e.pumpCount + 1 else e.pumpCount }) ∧
          (i = 4 →
            ((x.runThreshold : Int) ≤ v → e.state = .stopped → e.active = true ∨ x.autoIdleDelay = 0 → moved .working none) ∧
            ((x.runThreshold : Int) ≤ v → e.state = .stopped → e.active = false → x.autoIdleDelay ≠ 0 →
              moved .settling (some (x.autoIdleDelay * 1000))) ∧
            (v < x.runThreshold → e.state ≠ .stopped → moved .stopped none) ∧
            (((x.runThreshold : Int) ≤ v ↔ e.state ≠ .stopped) → stayed)) ∧
          (i = 5 →
            let dt : Nat := match e.prevFuel with | none => 0 | some before => min (s.now - before) src.timeout
            let total := e.fuelRem + w * dt
            t.ec = { e with copies := t.ec.copies, fuelRem := total % 3600000, prevFuel := some s.now } ∧
              t.ret.shift.fuel = min 4294967295 (s.ret.shift.fuel + total / 3600000)) ∧
          (i = 6 →
            ((x.oilStart : Int) ≤ v → t.ec.oilLatch = true) ∧ (v ≤ (x.oilStart : Int) - 5 → t.ec.oilLatch = false) ∧
            ((x.oilStart : Int) - 5 < v → v < x.oilStart → t.ec.oilLatch = e.oilLatch) ∧
            t.ec = { e with copies := t.ec.copies, oilLatch := t.ec.oilLatch, torque := t.ec.torque } ∧
            (t.ec.oilLatch ≠ e.oilLatch → t.TorqueSound)) ∧
          (i = 7 →
            let active := (x.pilotThreshold : Int) < v ∨ e.gateStill < e.omega.natAbs
            (t.ec.active = true ↔ active) ∧
            (active → e.active = false → e.state = .settling ∨ e.state = .idling → moved .working none) ∧
            (¬active → e.active = true → e.state = .working → x.autoIdleDelay ≠ 0 →
              moved .settling (some (x.autoIdleDelay * 1000))) ∧
            ((active ↔ e.active = true) → stayed))))

/-- O38. SOURCE_TIMEOUT_EXPIRY (R6 to R8), and PUT_ENTRY and RETIRE_ENTRY on SOURCES (R9, R10): a slot that runs out is STALE with
its last good value kept, SOURCE_LOST present and its consumer told; a slot that is written starts over, which ends SOURCE_LOST of
a STALE one; a change of a link slot publishes a pose (R45, R47), one of PILOT_PRESSURE makes the machine active (R111, R113), and
the notices are those after all that is reported; a slot beyond 7 and a payload that carries no record passing the checks of R9 are
refused. The model's choice: at the expiry the time the timer has left passes first (log entry 2). -/
def Obligations.SourceSlotsMove : Prop :=
  ∀ (s : State) (i : Fin 8), s.Ready → s.SlotsSound → s.nu.notices.length = 110 → s.ec.copies.length = 5 →
    s.pu.links.length = 3 →
    let others (t u : State) : Prop :=
      (∀ j, j ≠ i.val → t.slot j = u.slot j) ∧
        t = { u with
          ret := { u.ret with sources := t.ret.sources }
          mbp := { u.mbp with slots := t.mbp.slots }
          pu := t.pu, slm := t.slm, gg := t.gg, ec := t.ec, nu := t.nu, vd := t.vd, link := t.link, choice := t.choice
          zt := { u.zt with engaged := t.zt.engaged } }
    let told (t : State) (st : SourceState) : Prop :=
      (i.val < 3 → t.pu.links.getD i.val .fresh = st) ∧
        (3 ≤ i.val → (t.ec.copies.getD (i.val - 3) ⟨.fresh, none⟩).state = st)
    let ended (t : State) : Prop := (s.slot i.val).state = .stale → noticeAt t.nu.notices (37 + i.val) = ⟨.clear, false⟩
    let moves (t u : State) (own : List Report) : Prop :=
      let same := (t.slot i.val).state = (s.slot i.val).state
      let p := poseOf t.ret.geometry { s.pu with links := s.pu.links.set i.val (t.slot i.val).state }
        (t.linkWord 0) (t.linkWord 1) (t.linkWord 2)
      let idles := s.ec.active = false ∧ (s.ec.state = .settling ∨ s.ec.state = .idling)
      let told : List Report :=
        if i.val < 3 then (if same then [] else limitConditions t.slm.record ++ floorConditions t.gg.floor)
        else if t.ec.state = s.ec.state then [] else [.condition 85 false, .condition 55 false]
      t.nu.notices = noticesAfter (own ++ told) s.nu.notices ∧
      (i.val < 3 → ¬same → t.pu.pose = p ∧ t.slm = { held := p, record := limitRecord t.ret s.zt.isOpen p } ∧
        t.gg = { held := p, guidance := guidanceOf t.ret p, floor := floorNext t.ret p s.gg.floor
                 hold := holdNext t.ret p s.gg.floor u.gg.hold }) ∧
      (i.val = 7 → ¬same → t.ec.active = true ∧ (idles → t.ec.state = .working ∧ t.ec.autoIdle = none ∧ t.ec.shutdown = none) ∧
        (¬idles → t.ec.state = s.ec.state)) ∧
      (i.val ≠ 7 → t.ec.state = s.ec.state)
    let lost : List Report := if (s.slot i.val).state = .stale then [.condition (37 + i.val) false] else []
    (∀ left, (s.slot i.val).timer = some left → ∃ t, exec (.sourceTimeoutExpiry i) s = .next t ∧
      t.slot i.val = { s.slot i.val with state := .stale, timer := none } ∧ t.ret.sources = s.ret.sources ∧
      (noticeAt t.nu.notices (37 + i.val)).cond = true ∧ (noticeAt t.nu.notices (37 + i.val)).state ≠ .clear ∧
      t.link = s.link ∧ told t .stale ∧ others t (s.elapse left) ∧ moves t (s.elapse left) [.condition (37 + i.val) true]) ∧
    (∀ x : SourceRecord, x.Sound i.val →
      ∃ t, exec (.putEntry 5 (BitVec.ofNat 8 i.val) x.payload) s = .next t ∧ t.ret.sources = s.ret.sources.set i.val x ∧
        t.slot i.val =
          (if x.identifier.isSome then { state := .never, lastGood := none, lastTime := none, timer := some x.timeout }
          else { state := .disabled, lastGood := none, lastTime := none, timer := none }) ∧
        ((s.slot i.val).state ≠ (t.slot i.val).state → told t (t.slot i.val).state) ∧ ended t ∧ others t s ∧ moves t s lost ∧
        t.link = { s.link with answer := some (.done 2 .ok [BitVec.ofNat 8 i.val]) }) ∧
    (∃ t, exec (.retireEntry 5 (BitVec.ofNat 8 i.val)) s = .next t ∧
      t.ret.sources = s.ret.sources.set i.val (defaultSources.getD i.val (sourceDefault 0 0)) ∧
      t.slot i.val = { state := .disabled, lastGood := none, lastTime := none, timer := none } ∧
      ((s.slot i.val).state ≠ .disabled → told t .disabled) ∧ ended t ∧ others t s ∧ moves t s lost ∧
      t.link = { s.link with answer := some (.done 3 .ok []) }) ∧
    (∀ p : List Byte, p.length = 16 →
      ((∀ x : SourceRecord, x.Sound i.val → p ≠ x.payload) →
        exec (.putEntry 5 (BitVec.ofNat 8 i.val) p) s = .next (s.answer 2 .badValue [])) ∧
      ∀ b : Byte, 8 ≤ b.toNat → exec (.putEntry 5 b p) s = .next (s.answer 2 .badIndex []) ∧
        exec (.retireEntry 5 b) s = .next (s.answer 3 .badIndex []))

/-- O39. PERIOD_TIMER_EXPIRY (R12, R14, R15, R116): the ending period is judged, unless an attempt of its message is on the bus;
then a new message is built, or after 16 unsent periods BUS_OFF is entered. The model's choices: the time the timer has left
passes first (log entry 2); the operand says whether an attempt is on the bus, the new message is built at once behind a
deferred judgement, and one judgement is deferred at a time (log entry 9). -/
def Obligations.DemandPeriodJudged : Prop :=
  ∀ (s : State) (attempt : Bool) (left : Nat), s.Ready → s.mbp.period = some left →
    let u := s.elapse left
    let asks := s.ec.state = .working ∨ s.ec.state = .settling
    let m : DemandMessage :=
      { ident := s.ret.settings.demandId.getD 0
        speed := if asks then (s.ret.mode s.ret.selectedMode).speed else s.ret.settings.idleSpeed
        torque := s.ec.torque, idle := decide (s.ec.state = .idling)
        shutdown := decide (s.ec.state = .shutdownRequested), counter := s.mbp.rolling }
    let judged : Nat := if s.mbp.built then (if s.mbp.acked then 0 else s.mbp.unsent + 1) else s.mbp.unsent
    let built (unsent : Nat) (deferred : Bool) : State :=
      { u with mbp := { u.mbp with
        waiting := some m, built := true, acked := false, rolling := (s.mbp.rolling + 1) % 16, period := some 50
        unsent := unsent, deferred := deferred } }
    let waits := attempt = true ∧ s.mbp.waiting.isSome ∧ s.mbp.deferred = false
    (waits → exec (.periodTimerExpiry attempt) s = .next (built s.mbp.unsent true)) ∧
    (¬waits → judged < 16 → exec (.periodTimerExpiry attempt) s = .next (built judged s.mbp.deferred)) ∧
    (¬waits → 16 ≤ judged → exec (.periodTimerExpiry attempt) s =
      .next ({ u with
        mbp := { u.mbp with
          busOff := true, waiting := none, built := false, acked := false, deferred := false, period := none, unsent := 0
          recovery := some 1000 }
        inbox := [.condition 53 true] }).deliver)

/-- O40. TRANSMISSION_ATTEMPT_END and RECOVERY_TIMER_EXPIRY (R13 to R15): an attempt that the period's judgement waits for
decides it, an acknowledged one of the running period sends its message, any other leaves the message to be tried again. The
model's choices: the time the recovery timer has left passes first (log entry 2); an attempt that the judgement waits for is the
one that ends (log entry 9); a deferred entry into BUS_OFF leaves the rolling counter advanced (log entry 10); an acknowledgement
with no message waiting changes nothing (log entry 18). -/
def Obligations.DemandAttemptEnds : Prop :=
  ∀ s : State, s.Ready →
    (s.mbp.deferred = true → exec (.transmissionAttemptEnd true) s =
      .next ({ s with mbp := { s.mbp with deferred := false, unsent := 0 }, inbox := [.condition 53 false] }).deliver) ∧
    (s.mbp.deferred = true → s.mbp.unsent < 15 → exec (.transmissionAttemptEnd false) s =
      .next { s with mbp := { s.mbp with deferred := false, unsent := s.mbp.unsent + 1 } }) ∧
    (s.mbp.deferred = true → 15 ≤ s.mbp.unsent → exec (.transmissionAttemptEnd false) s =
      .next ({ s with
        mbp := { s.mbp with
          busOff := true, waiting := none, built := false, acked := false, deferred := false, period := none, unsent := 0
          recovery := some 1000 }
        inbox := [.condition 53 true] }).deliver) ∧
    (s.mbp.deferred = false → s.mbp.waiting.isSome → exec (.transmissionAttemptEnd true) s =
      .next ({ s with mbp := { s.mbp with waiting := none, acked := true }, inbox := [.condition 53 false] }).deliver) ∧
    (s.mbp.deferred = false → exec (.transmissionAttemptEnd false) s = .next s) ∧
    (s.mbp.deferred = false → s.mbp.waiting = none → exec (.transmissionAttemptEnd true) s = .next s) ∧
    (∀ left, s.mbp.recovery = some left → exec .recoveryTimerExpiry s =
      .next { s.elapse left with mbp := { (s.elapse left).mbp with
        busOff := false, recovery := none, built := false, acked := false, period := some 50 } })

/-! ### Zones, surfaces, records -/

/-- O41. OPEN_ZONES (R57), CLOSE_ZONES (R58) and EDIT_TIMER_EXPIRY (R59, R60). The expiry rests on the model's choice that the time
the timer has left passes first (log entry 2). -/
def Obligations.ZoneEditModes : Prop :=
  ∀ s : State, s.Ready →
    let full : Timer := some (s.ret.settings.editTimeout * 1000)
    (s.zt.isOpen = false → exec .openZones s =
      .next ((({ s with zt := { s.zt with isOpen := true, edit := full }
                        inbox := [.condition 84 true] }).evaluateLimits).answer 5 .ok []).deliver) ∧
    (s.zt.isOpen = true → exec .openZones s = .next (({ s with zt := { s.zt with edit := full } }).answer 5 .ok [])) ∧
    (s.zt.isOpen = true → exec .closeZones s =
      .next ((({ s with zt := { s.zt with isOpen := false, edit := none }
                        inbox := [.condition 84 false] }).evaluateLimits).answer 6 .ok []).deliver) ∧
    (s.zt.isOpen = false → exec .closeZones s = .next (s.answer 6 .state [])) ∧
    (∀ left, s.zt.edit = some left → exec .editTimerExpiry s =
      .next (({ s.elapse left with zt := { s.zt with isOpen := false, edit := none }
                                   inbox := [.condition 84 false, .cause 54 false] }).evaluateLimits).deliver)

/-- O42. PUT_ENTRY and RETIRE_ENTRY on ZONES and SECTORS (R61 to R65): refused whole while CLOSED; while OPEN each restarts the
edit timer, an accepted one writes its entry and has the limits evaluated, and an index beyond the table, a payload that carries no
entry passing the checks, a full table and an EMPTY entry are refused. The model's reading: a tag of 65535, the absent mark of its
field, fails its check (log entry 34). -/
def Obligations.ZoneEntriesWritten : Prop :=
  ∀ (s : State) (i : Byte), s.Ready →
    let t : State := { s with zt := { s.zt with edit := some (s.ret.settings.editTimeout * 1000) } }
    let zone (k : Nat) (e : Option Zone) : State := { t with ret := { s.ret with zones := s.ret.zones.set k e } }
    let sector (x : Sector) : State := { t with ret := { s.ret with sectors := s.ret.sectors.set i.toNat x } }
    let flag (firm : Bool) : Nat := if firm then 1 else 0
    (∀ p : List Byte, s.zt.isOpen = false →
      (p.length = 13 → exec (.putEntry 1 i p) s = .next (s.answer 2 .notOpen [])) ∧
      (p.length = 2 → exec (.putEntry 2 i p) s = .next (s.answer 2 .notOpen [])) ∧
      exec (.retireEntry 1 i) s = .next (s.answer 3 .notOpen []) ∧
      exec (.retireEntry 2 i) s = .next (s.answer 3 .notOpen [])) ∧
    (s.zt.isOpen = true →
      (∀ z : Zone, z.Sound →
        (i.toNat < 12 → exec (.putEntry 1 i z.payload) s =
          .next (((zone i.toNat (some z)).evaluateLimits).answer 2 .ok [i]).deliver) ∧
        (∀ k, i = 255 → k < 12 → k < s.ret.zones.length → s.ret.zones.getD k none = none →
          (∀ j, j < k → s.ret.zones.getD j none ≠ none) →
          exec (.putEntry 1 i z.payload) s =
            .next (((zone k (some z)).evaluateLimits).answer 2 .ok [BitVec.ofNat 8 k]).deliver) ∧
        (i = 255 → (∀ e ∈ s.ret.zones, e ≠ none) → exec (.putEntry 1 i z.payload) s = .next (t.answer 2 .full []))) ∧
      (∀ p : List Byte, p.length = 13 →
        (12 ≤ i.toNat → i ≠ 255 → exec (.putEntry 1 i p) s = .next (t.answer 2 .badIndex [])) ∧
        (i.toNat < 12 ∨ i = 255 → (∀ z : Zone, z.Sound → p ≠ z.payload) →
          exec (.putEntry 1 i p) s = .next (t.answer 2 .badValue []))) ∧
      (∀ z, i.toNat < 12 → s.ret.zones.getD i.toNat none = some z →
        exec (.retireEntry 1 i) s = .next (((zone i.toNat none).evaluateLimits).answer 3 .ok []).deliver) ∧
      (i.toNat < 12 → s.ret.zones.getD i.toNat none = none → exec (.retireEntry 1 i) s = .next (t.answer 3 .empty [])) ∧
      (12 ≤ i.toNat → exec (.retireEntry 1 i) s = .next (t.answer 3 .badIndex [])) ∧
      (∀ (c : Cls) (firm : Bool), i.toNat < 32 →
        exec (.putEntry 2 i (toBe 1 c.code ++ toBe 1 (flag firm))) s =
          .next (((sector ⟨c, firm⟩).evaluateLimits).answer 2 .ok [i]).deliver) ∧
      (∀ p : List Byte, p.length = 2 →
        (32 ≤ i.toNat → exec (.putEntry 2 i p) s = .next (t.answer 2 .badIndex [])) ∧
        (i.toNat < 32 → (∀ (c : Cls) (firm : Bool), p ≠ toBe 1 c.code ++ toBe 1 (flag firm)) →
          exec (.putEntry 2 i p) s = .next (t.answer 2 .badValue []))) ∧
      (i.toNat < 32 → exec (.retireEntry 2 i) s =
        .next (((sector ⟨.free, false⟩).evaluateLimits).answer 3 .ok []).deliver) ∧
      (32 ≤ i.toNat → exec (.retireEntry 2 i) s = .next (t.answer 3 .badIndex [])))

/-- O43. PUT_ENTRY and RETIRE_ENTRY on SURFACES, SELECT_TARGET (R91 to R96) and HOLD_TIMER_EXPIRY (R100 to R102): an entry that
stops being an ACTIVE GRADE surface loses the selection; ANY is the lowest EMPTY entry; an index beyond the table, a payload that
carries no surface passing the checks, a full table and an EMPTY entry are refused. What an evaluation does is O30. The model's
choices: at the expiry the time the timer has left passes first (log entry 2); a tag of 65535, the absent mark of its field, fails
its check (log entry 34). -/
def Obligations.SurfacesAndTarget : Prop :=
  ∀ (s : State) (i : Byte), s.Ready →
    let wrote (k : Nat) (e : Option Surface) (kept : Prop) [Decidable kept] : State :=
      { s with ret := { s.ret with
        surfaces := s.ret.surfaces.set k e
        selection := if s.ret.selection = some k ∧ ¬kept then none else s.ret.selection } }
    let chosen (e : Option Nat) : State := { s with ret := { s.ret with selection := e } }
    (∀ f : Surface, f.Sound →
      (i.toNat < 8 → exec (.putEntry 3 i f.payload) s =
        .next (((wrote i.toNat (some f) (f.active = true ∧ f.kind = .grade)).evaluateGrade).answer 2 .ok [i]).deliver) ∧
      (∀ k, i = 255 → k < s.ret.surfaces.length → s.ret.surfaces.getD k none = none →
        (∀ j, j < k → s.ret.surfaces.getD j none ≠ none) → exec (.putEntry 3 i f.payload) s =
          .next (((wrote k (some f) (f.active = true ∧ f.kind = .grade)).evaluateGrade).answer 2 .ok
            [BitVec.ofNat 8 k]).deliver) ∧
      (i = 255 → (∀ e ∈ s.ret.surfaces, e ≠ none) → exec (.putEntry 3 i f.payload) s = .next (s.answer 2 .full []))) ∧
    (∀ p : List Byte, p.length = 14 →
      (8 ≤ i.toNat → i ≠ 255 → exec (.putEntry 3 i p) s = .next (s.answer 2 .badIndex [])) ∧
      (i.toNat < 8 ∨ i = 255 → (∀ f : Surface, f.Sound → p ≠ f.payload) →
        exec (.putEntry 3 i p) s = .next (s.answer 2 .badValue []))) ∧
    (∀ f, i.toNat < 8 → s.ret.surfaces.getD i.toNat none = some f → exec (.retireEntry 3 i) s =
      .next (((wrote i.toNat none False).evaluateGrade).answer 3 .ok []).deliver) ∧
    (i.toNat < 8 → s.ret.surfaces.getD i.toNat none = none → exec (.retireEntry 3 i) s = .next (s.answer 3 .empty [])) ∧
    (8 ≤ i.toNat → exec (.retireEntry 3 i) s = .next (s.answer 3 .badIndex [])) ∧
    (∀ f, i.toNat < 8 → s.ret.surfaces.getD i.toNat none = some f → f.active = true → f.kind = .grade →
      exec (.selectTarget i) s = .next (((chosen (some i.toNat)).evaluateGrade).answer 7 .ok []).deliver) ∧
    (i.toNat < 8 → (∀ f, s.ret.surfaces.getD i.toNat none = some f → ¬(f.active = true ∧ f.kind = .grade)) →
      exec (.selectTarget i) s = .next (s.answer 7 .state [])) ∧
    (i = 254 → exec (.selectTarget i) s = .next (((chosen none).evaluateGrade).answer 7 .ok []).deliver) ∧
    (8 ≤ i.toNat → i ≠ 254 → exec (.selectTarget i) s = .next (s.answer 7 .badIndex [])) ∧
    (∀ left, s.gg.hold = some left → s.gg.floor.state = .holding → exec .holdTimerExpiry s =
      .next ({ s.elapse left with
        gg := { s.gg with
          floor := { state := .unavailable, held := none, index := none, dF := none, band := none, target := 0 }
          hold := none }
        vd := (s.elapse left).vd.hand 2 0
        inbox := [.condition 33 false, .condition 34 true, .condition 83 false] }).deliver)

/-- O44. PUT_ENTRY on GEOMETRY and its RETIRE_ENTRY (R34 to R37): all ten fields at once, a dump level less than 500 mm above the
dig level being clamped to that, a pose recomputed and the condition of GEOMETRY_UNSET reported; an index other than 0 and a
payload with a field out of its range are refused. -/
def Obligations.GeometryWritten : Prop :=
  ∀ s : State, s.Ready →
    let set (x : Geometry) (unset : Bool) : State :=
      ({ s with ret := { s.ret with geometry := x }, inbox := [.condition 36 unset] }).recompute
    let inRange (g : Dims) (dig dump : Int) : Prop :=
      g.Sound ∧ -30000 ≤ dig ∧ dig ≤ 30000 ∧ -30000 ≤ dump ∧ dump ≤ 30000
    (∀ (g : Dims) (dig dump : Int), inRange g dig dump →
      (dig + 500 ≤ dump → exec (.putEntry 8 0 (geometryPayload g dig dump)) s =
        .next ((set { dims := some g, dig := dig, dump := dump } false).answer 2 .ok [0]).deliver) ∧
      (dump < dig + 500 → exec (.putEntry 8 0 (geometryPayload g dig dump)) s =
        .next ((set { dims := some g, dig := dig, dump := dig + 500 } false).answer 2 .okClamped [0]).deliver)) ∧
    exec (.retireEntry 8 0) s = .next ((set { dims := none, dig := 0, dump := 3000 } true).answer 3 .ok []).deliver ∧
    (∀ p : List Byte, p.length = 20 →
      ((∀ (g : Dims) (dig dump : Int), inRange g dig dump → p ≠ geometryPayload g dig dump) →
        exec (.putEntry 8 0 p) s = .next (s.answer 2 .badValue [])) ∧
      ∀ i : Byte, i ≠ 0 → exec (.putEntry 8 i p) s = .next (s.answer 2 .badIndex []) ∧
        exec (.retireEntry 8 i) s = .next (s.answer 3 .badIndex []))

/-- O45. PUT_ENTRY and RETIRE_ENTRY on SETTINGS (R180, R181). Where the write clamps no other setting the value is clamped to its
range and every other setting stands; RETIRE puts the default. The settings whose change acts at their owner: the bit rate ends an
attempt unacknowledged (R1); the Demand identifier and enable start and stop transmission (R12, R16); CPR and the index position
unreference the counter (R18, R19); the Zone Table's enables and classes (R53, R67), the deceleration and the margin (R72) have the
limits evaluated, and the two bands the grade (R90); the running threshold judges the engine, the pilot activity threshold the
activity, the oil derate start the latch, and the idle and oil derate torque work T out (R109 to R113, R117, R118); the two delays
act on their timers (R113); the two supply thresholds stay a step apart and judge the qualifications afresh (R169). Every other
setting acts when it is next read. A write of what stands changes nothing. The model's choices: the result says whether the value
written, or another setting, was clamped, also where the setting already stood at the value (log entry 16); a judgement of the
ending period that waits for an attempt is decided by a change of the bit rate, and an entry into BUS_OFF then leaves the rolling
counter advanced (log entries 9 and 10); the activity is judged by the still threshold of the latest gate (log entry 32). -/
def Obligations.SettingsClamped : Prop :=
  (∀ (s : State) (n : Nat) (lo hi v : Int), s.Ready → (n, lo, hi) ∈ plainRanges → -2147483648 ≤ v → v ≤ 2147483647 →
    let value := max lo (min hi v)
    let others (t : State) : Prop :=
      t.ret = { s.ret with settings := t.ret.settings } ∧
        (∀ k, k ≠ n → t.ret.settings.get k = s.ret.settings.get k) ∧ t.pins = s.pins ∧ t.now = s.now ∧ t.phase = s.phase ∧
        (n ∈ [5, 6, 7, 13, 20, 28, 29, 30, 31, 32, 33] → t = { s with ret := t.ret, link := t.link })
    (∃ t, exec (.putEntry 9 (BitVec.ofNat 8 n) (toBeInt 4 v)) s = .next t ∧ t.ret.settings.get n = some value ∧ others t ∧
      t.link.answer = some (.done 2 (if value = v then .ok else .okClamped) [BitVec.ofNat 8 n])) ∧
    (∃ t, exec (.retireEntry 9 (BitVec.ofNat 8 n)) s = .next t ∧ t.ret.settings.get n = defaultSettings.get n ∧ others t ∧
      t.link.answer = some (.done 3 .ok []))) ∧
  (∀ (s : State) (v : Int), s.Ready → s.CountSound → -2147483648 ≤ v → v ≤ 2147483647 →
    let x := s.ret.settings
    let set (y : Settings) : State := { s with ret := { s.ret with settings := y } }
    let result (exact : Prop) [Decidable exact] : ResultCode := if exact then .ok else .okClamped
    let wrote (n : Nat) (r : ResultCode) (t : State) : Prop :=
      exec (.putEntry 9 (BitVec.ofNat 8 n) (toBeInt 4 v)) s = .next (t.answer 2 r [BitVec.ofNat 8 n]).deliver
    let rate : Nat := if v < 500 then 250 else 500
    let rated := set { x with canBitRate := rate }
    let sends (y : Settings) : Prop := y.demandEnable = true ∧ y.demandId.isSome = true
    let demand (n : Nat) (y : Settings) (r : ResultCode) : Prop :=
      (sends x → ¬sends y → wrote n r { set y with
        mbp := { s.mbp with
          waiting := none, built := false, acked := false, deferred := false, period := none, recovery := none
          busOff := false, unsent := 0 }
        inbox := [.condition 53 false] }) ∧
      (¬sends x → sends y → wrote n r { set y with
        mbp := { s.mbp with period := some 50, built := false, acked := false } }) ∧
      ((sends x ↔ sends y) → wrote n r (set y))
    let ident : Option Nat := if v = -2147483648 then none else some (max 0 (min 536870911 v)).toNat
    let cpr : Nat := (max 1000 (min 1000000 v)).toNat
    let placed : Settings := { x with cpr := cpr, indexPos := min x.indexPos (cpr - 1) }
    let pos : Nat := (max 0 (min ((x.cpr : Int) - 1) v)).toNat
    let idle : Nat := if v ≤ 0 then 0 else (max 2 (min 60 v)).toNat
    let shut : Nat := if v ≤ 0 then 0 else (max 60 (min 3600 v)).toNat
    let moved (y : Settings) (st : EconomyState) (auto : Timer) : State :=
      ({ set y with
        ec := { s.ec with state := st, autoIdle := auto, shutdown := none, wait := none }
        vd := if st = EconomyState.stopped then s.vd else { s.vd with test := none, duration := none }
        inbox := [.condition 85 false, .condition 55 false] }).workOutTorque
    let delayed := { x with autoIdleDelay := idle }
    let stops := s.ec.state = .settling ∧ idle = 0 ∧ x.autoIdleDelay ≠ 0
    let starts := s.ec.state = .working ∧ s.ec.active = false ∧ idle ≠ 0 ∧ x.autoIdleDelay = 0
    let held := set { x with shutdownDelay := shut }
    let judged (y : Settings) : State :=
      let since (met : Prop) [Decidable met] (old : Timer) (ms : Nat) : Timer :=
        if met then (if old.isSome then old else some ms) else none
      { set y with vd := { s.vd with
        downQual := if s.vd.supplyLow then none else since (s.pins.supply < y.supplyDown) s.vd.downQual 20
        upQual := if s.vd.supplyLow then since (y.supplyUp ≤ s.pins.supply) s.vd.upQual 100 else none } }
    let down : Nat := (max 160 (min 280 v)).toNat / 5 * 5
    let lowered : Settings := { x with supplyDown := down, supplyUp := if x.supplyUp ≤ down then down + 5 else x.supplyUp }
    let top : Nat := (max 165 (min 285 v)).toNat / 5 * 5
    let raised : Settings := { x with supplyUp := if top ≤ x.supplyDown then x.supplyDown + 5 else top }
    (x.canBitRate = rate ∨ s.mbp.deferred = false → wrote 0 (result (v = rate)) rated) ∧
    (x.canBitRate ≠ rate → s.mbp.deferred = true →
      (s.mbp.unsent < 15 → wrote 0 (result (v = rate))
        { rated with mbp := { s.mbp with deferred := false, unsent := s.mbp.unsent + 1 } }) ∧
      (15 ≤ s.mbp.unsent → wrote 0 (result (v = rate))
        { rated with
          mbp := { s.mbp with
            busOff := true, waiting := none, built := false, acked := false, deferred := false, period := none, unsent := 0
            recovery := some 1000 }
          inbox := [.condition 53 true] })) ∧
    demand 1 { x with demandId := ident } (result (v = -2147483648 ∨ (0 ≤ v ∧ v ≤ 536870911))) ∧
    demand 2 { x with demandEnable := decide (1 ≤ v) } (result (0 ≤ v ∧ v ≤ 1)) ∧
    (cpr = x.cpr → wrote 3 (result (v = cpr)) s) ∧
    (cpr ≠ x.cpr → wrote 3 (result (v = cpr ∧ placed.indexPos = x.indexPos)) { set placed with
      sc := { s.sc with
        count := 0, referenced := false, travel := 0, gateAcc := 0, runDir := .none, runCount := 0 }
      inbox := [.condition 35 true] }) ∧
    (pos = x.indexPos → wrote 4 (result (v = pos)) s) ∧
    (pos ≠ x.indexPos → wrote 4 (result (v = pos)) { set { x with indexPos := pos } with
      sc := { s.sc with count := 0, referenced := false, travel := 0 }, inbox := [.condition 35 true] }) ∧
    (stops → wrote 22 (result (v = idle)) (moved delayed .working none)) ∧
    (starts → wrote 22 (result (v = idle)) (moved delayed .settling (some (idle * 1000)))) ∧
    (¬stops → ¬starts → wrote 22 (result (v = idle)) (set delayed)) ∧
    (s.ec.state = .idling → shut = 0 → x.shutdownDelay ≠ 0 → wrote 23 (result (v = shut))
      { held with ec := { s.ec with shutdown := none }, inbox := [.condition 55 false] }) ∧
    (s.ec.state = .idling → shut ≠ 0 → x.shutdownDelay = 0 → wrote 23 (result (v = shut))
      { held with ec := { s.ec with shutdown := some (shut * 1000) } }) ∧
    (s.ec.state ≠ .idling ∨ (shut = 0 ↔ x.shutdownDelay = 0) → wrote 23 (result (v = shut)) held) ∧
    (lowered = x → wrote 34 (result (v = down)) s) ∧
    (lowered ≠ x → wrote 34 (result (v = down ∧ lowered.supplyUp = x.supplyUp)) (judged lowered)) ∧
    (raised = x → wrote 35 (result (v = raised.supplyUp)) s) ∧
    (raised ≠ x → wrote 35 (result (v = raised.supplyUp)) (judged raised)) ∧
    (let acts (n lo hi : Nat) (y : Settings) (effect : State → State) : Prop :=
       let r := result (lo ≤ v ∧ v ≤ hi)
       (y = x → wrote n r s) ∧ (y ≠ x → wrote n r (effect (set y)))
     let num (lo hi : Int) : Nat := (max lo (min hi v)).toNat
     let on := decide (1 ≤ v)
     let cls : Cls := if v ≤ 0 then .free else if v = 1 then .warn else if v = 2 then .slow else .stop
     acts 8 0 1 { x with zoneLimiting := on } State.evaluateLimits ∧ acts 9 0 1 { x with sectorMap := on } State.evaluateLimits ∧
     acts 10 0 3 { x with defaultClass := cls } State.evaluateLimits ∧
     acts 11 0 3 { x with holdClass := cls } State.evaluateLimits ∧
     acts 12 0 3 { x with noAngleClass := cls } State.evaluateLimits ∧
     acts 16 100 20000 { x with decel := num 100 20000 } State.evaluateLimits ∧
     acts 17 0 2048 { x with margin := num 0 2048 } State.evaluateLimits ∧
     acts 18 0 500 { x with onGradeBand := num 0 500 } State.evaluateGrade ∧
     acts 19 0 3000 { x with floorBand := num 0 3000 } State.evaluateGrade ∧
     acts 25 40 100 { x with idleTorque := num 40 100 } State.workOutTorque ∧
     acts 27 40 100 { x with oilTorque := num 40 100 } State.workOutTorque) ∧
    (let y := { x with runThreshold := (max 300 (min 700 v)).toNat }
     let r := result (300 ≤ v ∧ v ≤ 700)
     let full := some (x.autoIdleDelay * 1000)
     let runs := ∃ a, s.ec.copies.getD 1 ⟨.disabled, none⟩ = ⟨.fresh, some a⟩ ∧ (y.runThreshold : Int) ≤ a
     let stands := ∃ a, s.ec.copies.getD 1 ⟨.disabled, none⟩ = ⟨.fresh, some a⟩ ∧ a < y.runThreshold
     (y = x → wrote 21 r s) ∧
     (y ≠ x → runs → s.ec.state = .stopped → s.ec.active = true ∨ x.autoIdleDelay = 0 → wrote 21 r (moved y .working none)) ∧
     (y ≠ x → runs → s.ec.state = .stopped → s.ec.active = false → x.autoIdleDelay ≠ 0 → wrote 21 r (moved y .settling full)) ∧
     (y ≠ x → stands → s.ec.state ≠ .stopped → wrote 21 r (moved y .stopped none)) ∧
     (y ≠ x → (runs → s.ec.state ≠ .stopped) → (stands → s.ec.state = .stopped) → wrote 21 r (set y))) ∧
    (let y := { x with pilotThreshold := (max 0 (min 500 v)).toNat }
     let r := result (0 ≤ v ∧ v ≤ 500)
     let lever := ∃ a, s.ec.copies.getD 4 ⟨.disabled, none⟩ = ⟨.fresh, some a⟩ ∧ a ≤ y.pilotThreshold
     let active := ¬lever ∨ s.ec.gateStill < s.ec.omega.natAbs
     let begins := active ∧ s.ec.active = false ∧ (s.ec.state = .settling ∨ s.ec.state = .idling)
     let ends := ¬active ∧ s.ec.active = true ∧ s.ec.state = .working ∧ x.autoIdleDelay ≠ 0
     let judges (now : Bool) (t : State) : State := { t with ec := { t.ec with active := now } }
     (y = x → wrote 24 r s) ∧
     (y ≠ x → begins → wrote 24 r (judges true (moved y .working none))) ∧
     (y ≠ x → ends → wrote 24 r (judges false (moved y .settling (some (x.autoIdleDelay * 1000))))) ∧
     (y ≠ x → ¬begins → ¬ends → (active → wrote 24 r (judges true (set y))) ∧ (¬active → wrote 24 r (judges false (set y))))) ∧
    (let y := { x with oilStart := (max 70 (min 110 v)).toNat }
     let r := result (70 ≤ v ∧ v ≤ 110)
     let copy := s.ec.copies.getD 3 ⟨.disabled, none⟩
     let hot := ∃ a, copy = ⟨.fresh, some a⟩ ∧ (y.oilStart : Int) ≤ a
     let cool := ∃ a, copy = ⟨.fresh, some a⟩ ∧ a ≤ (y.oilStart : Int) - 5
     let turned (latch : Bool) : State :=
       ({ set y with ec := { s.ec with oilLatch := latch }, inbox := [.condition 56 latch] }).workOutTorque
     (y = x → wrote 26 r s) ∧
     (y ≠ x → hot → s.ec.oilLatch = false → wrote 26 r (turned true)) ∧
     (y ≠ x → cool → s.ec.oilLatch = true → wrote 26 r (turned false)) ∧
     (y ≠ x → (hot → s.ec.oilLatch = true) → (cool → s.ec.oilLatch = false) → wrote 26 r (set y)))) ∧
  ∀ (s : State) (i : Byte), s.Ready →
    (∀ (n : Nat) (d : Int), i = BitVec.ofNat 8 n →
      (n, d) ∈ [(0, 250), (1, -2147483648), (2, 0), (3, 36000), (4, 0), (5, 50), (6, 1365), (7, 45), (8, 1), (9, 0), (10, 0),
        (11, 2), (12, 2), (13, 10), (16, 2000), (17, 182), (18, 30), (19, 500), (20, 900), (21, 400), (22, 4), (23, 0), (24, 50),
        (25, 60), (26, 95), (27, 70), (28, 320), (29, 1), (30, 0), (31, 0), (32, 0), (33, 0), (34, 180), (35, 190)] →
      ∃ t r, exec (.putEntry 9 i (toBeInt 4 d)) s = .next t ∧ t.link.answer = some (.done 2 r [i]) ∧
        exec (.retireEntry 9 i) s = .next { t with link := { t.link with answer := some (.done 3 r []) } }) ∧
    (i = 14 ∨ i = 15 ∨ 36 ≤ i.toNat →
      (∀ p : List Byte, p.length = 4 → exec (.putEntry 9 i p) s = .next (s.answer 2 .badIndex [])) ∧
      exec (.retireEntry 9 i) s = .next (s.answer 3 .badIndex []))

/-! ### The Economy Controller and the Service Schedule (chapters 7 and 8) -/

/-- O46. PUT_ENTRY on WORK_MODES and SET_WORK_MODE (R107, R108, R113): figures clamped; those of the selected mode enter T at
once; a selection is a moment of activity, which takes SETTLING back to its full delay and IDLING out of idle; an index beyond 3
is refused, and so is RETIRE_ENTRY on the table. -/
def Obligations.WorkModesWritten : Prop :=
  ∀ (s : State) (i : Byte) (speed torque : Nat), s.Ready → speed < 65536 → torque < 256 →
    let m : WorkMode := { speed := max 800 (min 2100 speed), torque := max 40 (min 100 torque) }
    let put : State := { s with ret := { s.ret with modes := s.ret.modes.set i.toNat m } }
    let sel : State := { s with ret := { s.ret with selectedMode := i.toNat } }
    let result : ResultCode := if m.speed = speed ∧ m.torque = torque then .ok else .okClamped
    let delay := s.ret.settings.autoIdleDelay
    (i.toNat < 4 →
      (s.ret.selectedMode ≠ i.toNat → exec (.putEntry 6 i (toBe 2 speed ++ toBe 1 torque)) s =
        .next (put.answer 2 result [i])) ∧
      (s.ret.selectedMode = i.toNat → exec (.putEntry 6 i (toBe 2 speed ++ toBe 1 torque)) s =
        .next (put.workOutTorque.answer 2 result [i])) ∧
      (s.ec.state = .stopped ∨ s.ec.state = .working ∨ s.ec.state = .shutdownRequested → exec (.setWorkMode i) s =
        .next (sel.workOutTorque.answer 8 .ok [])) ∧
      (s.ec.state = .settling → exec (.setWorkMode i) s =
        .next (({ sel with ec := { s.ec with autoIdle := some (delay * 1000) } }).workOutTorque.answer 8 .ok [])) ∧
      (s.ec.state = .idling → ∃ t, exec (.setWorkMode i) s = .next t ∧
        t.ec.state = (if delay = 0 then .working else .settling) ∧
        t.ec.autoIdle = (if delay = 0 then none else some (delay * 1000)) ∧ t.ec.shutdown = none ∧
        t = { sel with
          ec := { s.ec with
            state := t.ec.state, autoIdle := t.ec.autoIdle, shutdown := none, wait := none, torque := t.ec.torque }
          vd := t.vd, nu := t.nu, link := t.link, choice := t.choice } ∧
        t.vd.test = none ∧ t.vd.duration = none ∧
        t.link = { s.link with answer := some (.done 8 .ok []) } ∧
        t.nu.notices = noticesAfter [.condition 85 false, .condition 55 false] s.nu.notices)) ∧
    (4 ≤ i.toNat →
      exec (.putEntry 6 i (toBe 2 speed ++ toBe 1 torque)) s = .next (s.answer 2 .badIndex []) ∧
      exec (.setWorkMode i) s = .next (s.answer 8 .badIndex [])) ∧
    exec (.retireEntry 6 i) s = .next (s.answer 3 .badTable [])

/-- O47. The timers of the economy states (R113 to R115, R172): the auto-idle timer takes SETTLING to IDLING, the shutdown timer
IDLING to SHUTDOWN_REQUESTED, the wait that back to IDLING; at each move T is worked out afresh. The model's choice in every
clause: the time left passes first, and SHUTDOWN_TIMER_30S_LEFT brings the shutdown timer to 30 s (log entry 2). -/
def Obligations.EconomyTimersMove : Prop :=
  ∀ (s : State) (left : Nat), s.Ready →
    let u := s.elapse left
    let delay := s.ret.settings.shutdownDelay
    let shut : Timer := if delay = 0 then none else some (delay * 1000)
    let idle : State := { u with ec := { u.ec with state := .idling, autoIdle := none, shutdown := shut, wait := none }
                                 inbox := [.condition 85 true, .condition 55 false] }
    let asked : State :=
      { u with
        ec := { u.ec with state := .shutdownRequested, autoIdle := none, shutdown := none, wait := some 30000 }
        vd := { u.vd with test := none, duration := none }
        inbox := [.condition 85 false, .condition 55 true] }
    (s.ec.state = .settling → s.ec.autoIdle = some left → exec .autoIdleTimerExpiry s = .next idle.workOutTorque.deliver) ∧
    (s.ec.state = .idling → s.ec.shutdown = some left → exec .shutdownTimerExpiry s = .next asked.workOutTorque.deliver) ∧
    (s.ec.state = .shutdownRequested → s.ec.wait = some left → exec .shutdownWaitExpiry s =
      .next idle.workOutTorque.deliver) ∧
    (s.ec.shutdown = some left → 30000 ≤ left → exec .shutdownTimerLeft s =
      .next ({ s.elapse (left - 30000) with inbox := [.condition 55 true] }).deliver)

/-- O48. A working-out of T hands channel 3 its target where T changes and nothing else (R118, R119). -/
def Obligations.TorqueWorkedOut : Prop :=
  ∀ s : State,
    let t := torqueLimit s.ret s.ec.state s.ec.oilLatch
    (t = s.ec.torque → s.workOutTorque = s) ∧
    (t ≠ s.ec.torque → 40 ≤ t → t ≤ 100 → ∃ target : Nat,
      (target : Int) = rndDiv ((s.ret.config 3).imax * (100 - (t : Int))) 60 ∧
      s.workOutTorque = { s with ec := { s.ec with torque := t }, vd := s.vd.hand 3 target })

/-- O49. QUANTUM_COMPLETION and CLEAR_SHIFT (R120 to R122, R124, R132): while metering runs the quantum's load class decides the
weight and the tally, every hour item is judged by the new meters and its move reported (R134), and the next quantum begins with the running time beyond the
36,000 ms; a clear empties the shift and leaves the meters. The model's choices: the running time that the quantum still lacks
passes first (log entry 2), running time that came in while the completion waited counts for the next quantum (log entry 3), and
while metering is paused the command does nothing (log entry 27). -/
def Obligations.QuantumMetered : Prop :=
  ∀ s : State, s.Ready →
    let n : Int := s.ec.pumpCount
    let pct := s.ec.pumpSum / n * 100 / s.ret.settings.ratedPump
    let c : LoadClass :=
      if s.ec.pumpCount = 0 then .normal else if pct < 20 then .idle else if pct < 45 then .light else if pct < 75 then .normal
      else .heavy
    let w : Nat := match c with | .idle => 50 | .light => 80 | .normal => 100 | .heavy => 150
    let full := 4294967295
    let x := s.ret.shift
    let got := s.ec.partialMs + s.ec.overMs
    (s.metering = true → ∃ t, exec .quantumCompletion s = .next t ∧
      (s.ret.engineMeter < 4000000000 →
        t.ret.engineMeter = s.ret.engineMeter + 1 ∧ t.ret.weightedMeter = s.ret.weightedMeter + w) ∧
      (4000000000 ≤ s.ret.engineMeter →
        t.ret.engineMeter = s.ret.engineMeter ∧ t.ret.weightedMeter = s.ret.weightedMeter) ∧
      t.ret.shift = { x with
        idle := if c = .idle then min full (x.idle + 1) else x.idle
        light := if c = .light then min full (x.light + 1) else x.light
        normal := if c = .normal then min full (x.normal + 1) else x.normal
        heavy := if c = .heavy then min full (x.heavy + 1) else x.heavy } ∧
      t.ec.partialMs = min 35999 (got - 36000) ∧ t.ec.partialMs + t.ec.overMs = got - 36000 ∧
      (∀ i it, s.ret.item i = some it → ∃ it', t.ret.item i = some it' ∧ it'.written = it.written ∧ it'.cycles = it.cycles ∧
        (it.basis = .engineHours ∨ it.basis = .weightedHours →
          it'.state = itemStateOf it.interval it.lead it.grace (it.progress t.ret))) ∧
      t.nu.notices =
        noticesAfter (itemsConditions (fun b => b == .engineHours || b == .weightedHours) s.ret.items t.ret.items) s.nu.notices ∧
      (let u := s.elapse (36000 - got)
       t = { u with
        ret := { s.ret with
          engineMeter := t.ret.engineMeter, weightedMeter := t.ret.weightedMeter, shift := t.ret.shift
          items := t.ret.items }
        ec := { u.ec with
          partialMs := t.ec.partialMs, overMs := t.ec.overMs, pumpSum := 0, pumpCount := 0, torque := t.ec.torque }
        nu := t.nu, vd := { u.vd with chans := t.vd.chans }, choice := t.choice })) ∧
    (s.metering = false → exec .quantumCompletion s = .next s) ∧
    exec .clearShift s =
      .next (({ s with ret := { s.ret with shift := ⟨0, 0, 0, 0, 0⟩ }, ec := { s.ec with fuelRem := 0 } }).answer 18 .ok [])

/-- O50. PUT_ENTRY and RETIRE_ENTRY on SERVICE_ITEMS and SERVICE_DONE (R134, R136 to R142): locked without the key; a new item
counts from now, an amended one keeps its progress, one on a new basis and one whose service is done start afresh; ANY is the
lowest EMPTY entry; each condition of item i that changes is reported, DUE being notice 86 + i, OVERDUE 58 + i and CRITICAL 8 + i,
whose beginning is a cause; an index beyond the table, a payload that carries no item passing the checks, a full table and an
EMPTY entry are refused. The model's reading: a tag of 65535, the absent mark of its field, fails its check (log entry 34). -/
def Obligations.ServiceItemsWritten : Prop :=
  ∀ (s : State) (i : Byte), s.Ready → s.ret.items.length = 24 →
    let meter (b : ServiceBasis) : Option Nat :=
      if b = .engineHours then some s.ret.engineMeter else if b = .weightedHours then some s.ret.weightedMeter else none
    let afresh (it : Item) : Item :=
      { it with stamp := meter it.basis, cycles := if (meter it.basis).isSome then none else some 0
                state := if it.lead = it.interval then .due else .counting }
    let wrote (code k : Nat) (payload : List Byte) (it : Item) (t : State) : Prop :=
      t = { s with
        ret := { s.ret with items := s.ret.items.set k (some it) }
        ec := { s.ec with torque := t.ec.torque }
        nu := t.nu, vd := t.vd, choice := t.choice
        link := { s.link with answer := some (.done code .ok payload) } } ∧
      t.nu.notices = noticesAfter (itemConditions k ((s.ret.item k).map Item.state) (some it.state)) s.nu.notices
    (s.pins.keyAsserted = false → ∀ p : List Byte, p.length = 16 →
      exec (.putEntry 4 i p) s = .next (s.answer 2 .locked []) ∧
      exec (.retireEntry 4 i) s = .next (s.answer 3 .locked []) ∧ exec (.serviceDone i) s = .next (s.answer 9 .locked [])) ∧
    (s.pins.keyAsserted = true → ∀ it : Item, it.Sound →
      (i.toNat < 24 → s.ret.item i.toNat = none → ∃ t, exec (.putEntry 4 i it.payload) s = .next t ∧
        wrote 2 i.toNat [i] (afresh { it with timesDone := 0 }) t) ∧
      (∀ o, i.toNat < 24 → s.ret.item i.toNat = some o → o.basis ≠ it.basis →
        ∃ t, exec (.putEntry 4 i it.payload) s = .next t ∧
          wrote 2 i.toNat [i] (afresh { it with timesDone := o.timesDone }) t) ∧
      (∀ o, i.toNat < 24 → s.ret.item i.toNat = some o → o.basis = it.basis →
        ∃ t, exec (.putEntry 4 i it.payload) s = .next t ∧
          wrote 2 i.toNat [i] { it with stamp := o.stamp, cycles := o.cycles, timesDone := o.timesDone
                                        state := itemStateOf it.interval it.lead it.grace (o.progress s.ret) } t) ∧
      (∀ k, i = 255 → k < 24 → s.ret.item k = none → (∀ j, j < k → s.ret.item j ≠ none) →
        ∃ t, exec (.putEntry 4 i it.payload) s = .next t ∧
          wrote 2 k [BitVec.ofNat 8 k] (afresh { it with timesDone := 0 }) t) ∧
      (i = 255 → (∀ k, k < 24 → s.ret.item k ≠ none) → exec (.putEntry 4 i it.payload) s = .next (s.answer 2 .full []))) ∧
    (s.pins.keyAsserted = true → ∀ p : List Byte, p.length = 16 →
      (24 ≤ i.toNat → i ≠ 255 → exec (.putEntry 4 i p) s = .next (s.answer 2 .badIndex [])) ∧
      (i.toNat < 24 ∨ i = 255 → (∀ it : Item, it.Sound → p ≠ it.payload) →
        exec (.putEntry 4 i p) s = .next (s.answer 2 .badValue []))) ∧
    (s.pins.keyAsserted = true → ∀ o, i.toNat < 24 → s.ret.item i.toNat = some o →
      (1 ≤ o.interval → o.lead ≤ o.interval → ∃ t, exec (.serviceDone i) s = .next t ∧
        wrote 9 i.toNat [] (afresh { o with timesDone := min 65535 (o.timesDone + 1) }) t) ∧
      ∃ t, exec (.retireEntry 4 i) s = .next t ∧
        t = { s with
          ret := { s.ret with items := s.ret.items.set i.toNat none }
          ec := { s.ec with torque := t.ec.torque }
          nu := t.nu, vd := t.vd, choice := t.choice
          link := { s.link with answer := some (.done 3 .ok []) } } ∧
        t.nu.notices = noticesAfter [.retirement i.toNat] s.nu.notices) ∧
    (s.pins.keyAsserted = true → i.toNat < 24 → s.ret.item i.toNat = none →
      exec (.serviceDone i) s = .next (s.answer 9 .empty []) ∧ exec (.retireEntry 4 i) s = .next (s.answer 3 .empty [])) ∧
    (s.pins.keyAsserted = true → 24 ≤ i.toNat →
      exec (.serviceDone i) s = .next (s.answer 9 .badIndex []) ∧
      exec (.retireEntry 4 i) s = .next (s.answer 3 .badIndex []))

/-! ### Reads, acknowledgements, lamp timers -/

/-- O51. The reads (R178, R181): a request changes nothing but that it waits for its response, and the response returns the
state as it stands when it is prepared (log entry 11), with the fields of Tables 11-4 and 11-5 in order: every entry and every list
of the tables, the pose (R43), the guidance and the floor (R103), the limits (R86), the economy (R125) and the drive (R173). An EMPTY
entry returns its state alone; an index or a table that does not exist is refused. The model's choices: the engaged zones stand by
ascending index (log entry 35); the codes of channel state, fault kind, supply, reference state, geometry state and table mode follow
their rule's text (log entry 14); the age of a sample that no longer fits its field is a free value (log entry 17). -/
def Obligations.ReadsChangeNothing : Prop :=
  (∀ (s : State) (table index : Byte), s.Ready →
    let asks (c : Instr) (q : ReadRequest) : Prop :=
      exec c s = .next { s with link := { s.link with answer := some (.read q) } }
    asks (.readEntry table index) (.entry table.toNat index.toNat) ∧ asks (.listTable table) (.list table.toNat) ∧
    asks .readPose .pose ∧ asks .readGuidance .guidance ∧ asks .readLimits .limits ∧ asks .readEconomy .economy ∧
    asks .readDrive .drive) ∧
  ∀ s : State, s.Ready → s.link.state = .working →
    let answers (q : ReadRequest) (code : Nat) (result : ResultCode) (payload : List Byte) : Prop :=
      s.link.answer = some (.read q) → exec .responseReady s = .next { s with link := { s.link with
        state := .ready, request := none, answer := none
        response := some ([BitVec.ofNat 8 code, BitVec.ofNat 8 result.code,
          (if s.link.overlap then 1 else 0) + (if s.nu.changed then 2 else 0), BitVec.ofNat 8 payload.length] ++ payload) } }
    let flag (b : Bool) : List Byte := toBe 1 (if b then 1 else 0)
    let life (active : Bool) : List Byte := toBe 1 (if active then 1 else 2)
    let x := s.ret.settings
    let p := s.pu.pose
    let g := s.gg.guidance
    let fl := s.gg.floor
    let lim := s.slm.record
    let engaged := (List.range 12).filter (fun i => s.zt.engaged.getD i false)
    let asked := s.ec.state = .working ∨ s.ec.state = .settling
    let age (last : Option Nat) : List Byte :=
      match last with
      | none => toBe 4 4294967295
      | some t => toBe 4 (if s.now - t < 4294967295 then s.now - t else Config.ageBeyondField (s.now - t))
    let channel (k : Nat) : List Byte :=
      let c := s.vd.chan k
      let test := (s.vd.test.filter (fun t => decide (t.channel = k))).map DriveTest.current
      let target := test.getD c.owner
      toBe 2 c.owner ++ optBe 2 test ++ toBe 2 (if target = 0 then 0 else max (s.ret.config k).start target) ++
        toBe 2 c.commanded ++ toBe 2 c.measured ++
        toBe 1 (if c.fault.isSome then 2 else if c.commanded = 0 then 1 else 0) ++ optBe 1 (c.fault.map FaultKind.code)
    let num (n v : Nat) : Nat × Int := (n, v)
    let on (n : Nat) (b : Bool) : Nat × Int := (n, if b then 1 else 0)
    let settings : List (Nat × Int) :=
      [num 0 x.canBitRate, (1, (x.demandId.map Int.ofNat).getD (-2147483648)), on 2 x.demandEnable, num 3 x.cpr, num 4 x.indexPos,
       num 5 x.slipTol, num 6 x.minSwing, num 7 x.still, on 8 x.zoneLimiting, on 9 x.sectorMap, num 10 x.defaultClass.code,
       num 11 x.holdClass.code, num 12 x.noAngleClass.code, num 13 x.editTimeout, num 16 x.decel, num 17 x.margin,
       num 18 x.onGradeBand, num 19 x.floorBand, num 20 x.idleSpeed, num 21 x.runThreshold, num 22 x.autoIdleDelay,
       num 23 x.shutdownDelay, num 24 x.pilotThreshold, num 25 x.idleTorque, num 26 x.oilStart, num 27 x.oilTorque,
       num 28 x.ratedPump, num 29 x.lampStretch, num 30 x.statusA.code, on 31 x.statusALow, num 32 x.statusB.code,
       on 33 x.statusBLow, num 34 x.supplyDown, num 35 x.supplyUp]
    answers .pose 14 .ok (toBe 2 p.seq ++ toBe 1 p.quality.code ++ optBe 2 p.phi ++ toBeInt 2 p.omega ++ optBeInt 4 p.r ++
      optBeInt 4 p.z ++ optBeInt 4 p.x ++ optBeInt 4 p.y ++ toBe 4 s.sc.count ++ flag s.sc.referenced ++ toBe 4 s.sc.travel) ∧
    answers .guidance 15 .ok (toBe 2 g.seq ++ toBe 1 (g.target.getD 254) ++ toBe 1 g.state.code ++ optBeInt 4 g.d ++
      toBe 1 fl.state.code ++ optBe 1 (fl.held.map FloorState.code) ++ optBe 1 fl.index ++ optBeInt 4 fl.dF ++
      optBe 2 fl.band ++ toBe 2 fl.target) ∧
    answers .limits 16 .ok (toBe 2 lim.seq ++ toBe 1 lim.basis.code ++ optBe 1 (lim.governing.map Cls.code) ++
      toBe 1 lim.left.code ++ toBe 1 lim.right.code ++ optBe 2 lim.leftLength ++ optBe 2 lim.rightLength ++
      optBe 1 (lim.leftClass.map Cls.code) ++ optBe 1 (lim.rightClass.map Cls.code) ++ optBe 2 lim.leftEscape ++
      optBe 2 lim.rightEscape ++ flag s.zt.isOpen ++ toBe 1 fl.state.code ++ toBe 1 engaged.length ++
      engaged.flatMap (fun i => toBe 1 i ++ toBe 2 (((s.ret.zones.getD i none).map Zone.tag).getD 0))) ∧
    answers .economy 17 .ok (toBe 1 s.ec.state.code ++ toBe 1 s.ret.selectedMode ++ flag s.ec.active ++
      toBe 2 (if asked then (s.ret.mode s.ret.selectedMode).speed else x.idleSpeed) ++ toBe 1 s.ec.torque ++
      toBe 1 (if s.ec.state = .idling then 1 else if s.ec.state = .shutdownRequested then 2 else 0) ++ flag s.ec.oilLatch ++
      toBe 1 s.ec.torque ++ toBe 2 (s.vd.chan 3).owner ++ toBe 4 s.ret.engineMeter ++ toBe 8 s.ret.weightedMeter ++
      toBe 2 s.ec.partialMs ++ toBe 4 s.ret.shift.idle ++ toBe 4 s.ret.shift.light ++ toBe 4 s.ret.shift.normal ++
      toBe 4 s.ret.shift.heavy ++ toBe 4 s.ret.shift.fuel) ∧
    answers .drive 19 .ok (channel 0 ++ channel 1 ++ channel 2 ++ channel 3 ++ flag (!s.vd.supplyLow) ++
      toBe 2 s.pins.supply ++ optBe 1 (s.vd.test.map DriveTest.channel) ++ optBe 2 (s.vd.test.map DriveTest.current) ++
      optBe 2 s.vd.duration) ∧
    (∀ i, i < 12 →
      (s.ret.zones.getD i none = none → answers (.entry 1 i) 1 .empty [0]) ∧
      (∀ z, s.ret.zones.getD i none = some z → answers (.entry 1 i) 1 .ok (life z.active ++ toBe 2 z.start ++ toBe 2 z.width ++
        toBe 1 z.condition.code ++ optBeInt 4 z.limit ++ toBe 1 z.cls.code ++ toBe 2 z.tag ++
        flag (s.zt.engaged.getD i false)))) ∧
    (∀ i, i < 32 →
      let c := s.ret.sectors.getD i ⟨.free, false⟩
      answers (.entry 2 i) 1 .ok (toBe 1 c.cls.code ++ flag c.firm)) ∧
    (∀ i, i < 8 →
      (s.ret.surfaces.getD i none = none → answers (.entry 3 i) 1 .empty [0]) ∧
      (∀ f, s.ret.surfaces.getD i none = some f → answers (.entry 3 i) 1 .ok (life f.active ++ toBe 1 f.kind.code ++
        toBeInt 2 f.h0 ++ toBeInt 2 f.sx ++ toBeInt 2 f.sy ++ toBe 2 f.start ++ toBe 2 f.width ++ toBe 2 f.tag))) ∧
    (∀ i, i < 24 →
      (s.ret.item i = none → answers (.entry 4 i) 1 .empty [0]) ∧
      (∀ it, s.ret.item i = some it → answers (.entry 4 i) 1 .ok (toBe 1 it.state.code ++ toBe 1 it.basis.code ++
        toBe 4 it.interval ++ toBe 4 it.lead ++ toBe 4 it.grace ++ optBe 8 it.stamp ++ optBe 8 it.cycles ++
        toBe 8 (it.progress s.ret) ++ toBe 2 it.timesDone ++ optBe 1 it.derate ++ toBe 2 it.tag))) ∧
    (∀ i, i < 8 →
      let src := s.source i
      let v := s.slot i
      answers (.entry 5 i) 1 .ok (optBe 4 src.identifier ++ toBe 1 src.offset ++ toBe 1 src.order.code ++ toBeInt 4 src.lo ++
        toBeInt 4 src.hi ++ toBe 2 src.timeout ++ toBe 1 v.state.code ++ optBeInt 4 v.lastGood ++ age v.lastTime)) ∧
    (∀ i, i < 4 →
      let m := s.ret.mode i
      let c := s.ret.config i
      answers (.entry 6 i) 1 .ok (toBe 2 m.speed ++ toBe 1 m.torque ++ flag (i == s.ret.selectedMode)) ∧
      answers (.entry 7 i) 1 .ok (toBe 2 c.imax ++ toBe 2 c.start ++ optBe 2 c.slow ++ toBe 2 c.rampUp ++ toBe 2 c.rampDown ++
        toBe 2 c.ditherAmp ++ toBe 2 c.ditherFreq ++ flag c.mask)) ∧
    (let d := s.ret.geometry.dims
     let dim (f : Dims → Int) : List Byte := optBeInt 2 (d.map f)
     answers (.entry 8 0) 1 .ok (flag d.isNone ++ dim Dims.fr ++ dim Dims.fz ++ dim Dims.lb ++ dim Dims.ls ++ dim Dims.lk ++
       dim Dims.ob ++ dim Dims.os ++ dim Dims.ok ++ toBeInt 2 s.ret.geometry.dig ++ toBeInt 2 s.ret.geometry.dump) ∧
     answers (.list 8) 4 .ok (flag d.isNone)) ∧
    (∀ (n : Nat) (v : Int), (n, v) ∈ settings → answers (.entry 9 n) 1 .ok (toBeInt 4 v)) ∧
    answers (.list 1) 4 .ok ((List.range 12).flatMap (fun i =>
      toBe 1 (match s.ret.zones.getD i none with | none => 0 | some z => if z.active then 1 else 2) ++
        flag (s.zt.engaged.getD i false))) ∧
    answers (.list 2) 4 .ok ((List.range 32).flatMap (fun i =>
      let c := s.ret.sectors.getD i ⟨.free, false⟩
      toBe 1 (c.cls.code + if c.firm then 128 else 0))) ∧
    answers (.list 3) 4 .ok ((List.range 8).flatMap (fun i =>
      match s.ret.surfaces.getD i none with
      | none => [0, 255]
      | some f => life f.active ++ toBe 1 f.kind.code)) ∧
    answers (.list 4) 4 .ok ((List.range 24).flatMap (fun i =>
      match s.ret.item i with
      | none => [0, 255]
      | some it => toBe 1 it.state.code ++ toBe 1 it.basis.code)) ∧
    answers (.list 5) 4 .ok ((List.range 8).flatMap (fun i => toBe 1 (s.slot i).state.code)) ∧
    answers (.list 6) 4 .ok ((List.range 4).flatMap (fun i =>
      toBe 2 (s.ret.mode i).speed ++ toBe 1 (s.ret.mode i).torque) ++ toBe 1 s.ret.selectedMode) ∧
    answers (.list 7) 4 .ok ((List.range 4).flatMap (fun i =>
      toBe 1 (if (s.vd.chan i).fault.isSome then 2 else if (s.vd.chan i).commanded = 0 then 1 else 0) ++
        optBe 1 ((s.vd.chan i).fault.map FaultKind.code))) ∧
    (∀ t, t = 0 ∨ 9 ≤ t → answers (.list t) 4 .badTable []) ∧
    (∀ t i, t = 0 ∨ 10 ≤ t → answers (.entry t i) 1 .badTable []) ∧
    (∀ t i n, (t, n) ∈ [(1, 12), (2, 32), (3, 8), (4, 24), (5, 8), (6, 4), (7, 4), (8, 1), (9, 36)] → n ≤ i →
      answers (.entry t i) 1 .badIndex []) ∧
    answers (.entry 9 14) 1 .badIndex [] ∧ answers (.entry 9 15) 1 .badIndex []

/-- O52. ACK_HEAD, ACK_NOTICE and ACK_ALL (R153): the head, a RAISED notice, every RAISED notice; after ACK_ALL none is RAISED and
the list is empty. -/
def Obligations.AcknowledgementsTaken : Prop :=
  ∀ (s : State) (n : Byte), s.Ready → s.nu.Sound →
    let m := s.ret.settings.lampStretch * 1000
    let one (k : Nat) : State := { s with nu := s.nu.ackOne m k }
    (s.nu.list = [] → exec .ackHead s = .next (s.answer 10 .empty [])) ∧
    (∀ k, s.nu.list.head? = some k → exec .ackHead s = .next ((one k).answer 10 .ok [])) ∧
    (110 ≤ n.toNat → exec (.ackNotice n) s = .next (s.answer 11 .badIndex [])) ∧
    (n.toNat < 110 → isRaised s.nu.notices n.toNat = false → exec (.ackNotice n) s = .next (s.answer 11 .state [])) ∧
    (n.toNat < 110 → isRaised s.nu.notices n.toNat = true → exec (.ackNotice n) s =
      .next ((one n.toNat).answer 11 .ok [])) ∧
    (∃ t, exec .ackAll s = .next t ∧ t.nu.list = [] ∧ t.nu = s.nu.settle m t.nu.notices ∧
      (∀ k, k < 110 → noticeAt t.nu.notices k =
        (let x := noticeAt s.nu.notices k
         if x.state = .raised then { x with state := if noticeHolds k ∧ x.cond = false then .clear else .acked } else x)) ∧
      t = { s with
        nu := t.nu
        link := { s.link with answer := some (.done 12 .ok []) } })

/-- O53. FLASH_TIMER_EXPIRY and STRETCH_TIMER_EXPIRY (R156): the phases of 500 ms, and the end of the stretch. The model's choice in
every clause: the time the timer has left passes first (log entry 2). -/
def Obligations.LampTimersRun : Prop :=
  ∀ (s : State) (left : Nat), s.Ready →
    let u := s.elapse left
    let off : LampState := { mode := .off, lit := false, flash := none, stretch := none }
    (s.nu.red.flash = some left → exec (.flashTimerExpiry .red) s =
      .next { u with nu := { u.nu with red := { u.nu.red with lit := !s.nu.red.lit, flash := some 500 } } }) ∧
    (s.nu.amber.flash = some left → exec (.flashTimerExpiry .amber) s =
      .next { u with nu := { u.nu with amber := { u.nu.amber with lit := !s.nu.amber.lit, flash := some 500 } } }) ∧
    (s.nu.red.stretch = some left → exec (.stretchTimerExpiry .red) s = .next { u with nu := { u.nu with red := off } }) ∧
    (s.nu.amber.stretch = some left → exec (.stretchTimerExpiry .amber) s = .next { u with nu := { u.nu with amber := off } })

/-! ### The Valve Drive (chapter 10) -/

/-- O54. RAMP_INTERVAL_EXPIRY (R162 to R164, R166) and VOUTn (R164): the commanded current moves by the table of R163, the measured
average becomes the mean of the current sensed in the last 20 ms, and the timer restarts; the expiry that completes a
qualification makes the channel FAULTED, with OPEN_LOAD before NOT_REACHED, and ends its drive test; any other leaves the channel
as the ramp set it. While the part runs the output is the commanded current with its triangle. The model's choices: the time the timer has left passes
first (log entry 2), the operand is the current sensed in each millisecond of the interval that ends, and a mean that is no whole
number is rounded either way, a free value (log entry 12); the triangle's phase is counted in thousandths of a period
(log entry 19). -/
def Obligations.RampMovesCurrent : Prop :=
  (∀ (s : State) (ch : Fin 4) (sensed : List Nat) (left : Nat), s.Ready → s.vd.chans.length = 4 → sensed ≠ [] →
    (s.vd.chan ch.val).ramp = some left →
    let u := s.elapse left
    let c := s.vd.chan ch.val
    let g := s.ret.config ch.val
    let window := (sensed ++ c.sensed).take 20
    let test := (s.vd.test.filter (fun x => decide (x.channel = ch.val))).map DriveTest.current
    let target := test.getD c.owner
    let e : Nat := if target = 0 then 0 else max g.start target
    let ramped : Nat :=
      if c.commanded = e then c.commanded
      else if c.commanded = 0 then (if g.start = 0 then min g.rampUp e else g.start)
      else if c.commanded < e then min (c.commanded + g.rampUp) e
      else if 0 < e then max (c.commanded - g.rampDown) e
      else if c.commanded < g.start + g.rampDown then 0 else c.commanded - g.rampDown
    let current : Nat := if s.vd.supplyLow ∨ c.fault.isSome then 0 else ramped
    let count (found : Prop) [Decidable found] (n : Nat) : Nat :=
      if c.fault.isSome ∨ ¬found then 0 else if current = c.commanded then n + 1 else 1
    ∃ t measured, exec (.rampIntervalExpiry ch sensed) s = .next t ∧
      (window.sum < window.length * measured + window.length ∧ window.length * measured < window.sum + window.length) ∧
      (let gap : Nat := (current - measured) + (measured - current)
       let openCount := count (0 < current ∧ g.start ≤ current ∧ 4 * measured < current) c.openQual
       let reachCount := count (0 < current ∧ current = e ∧ current < 5 * gap ∧ 50 < gap) c.reachQual
       let now (fault : Option FaultKind) (commanded openQual reachQual : Nat) (since : Option Nat) : Channel :=
         { c with
           commanded := commanded, measured := measured, sensed := window, fault := fault, openQual := openQual
           reachQual := reachQual, ramp := some 10, ditherSince := since }
       let taken (kind : FaultKind) : Prop :=
         t.vd.chan ch.val = now (some kind) 0 0 0 none ∧
           t = { u with
             vd := { u.vd with
               chans := t.vd.chans
               test := if test.isSome then none else s.vd.test, duration := if test.isSome then none else u.vd.duration }
             nu := u.nu.take s.ret.settings.stretchMs (.cause (2 + ch.val) true) }
       (c.fault.isSome ∨ (openCount < 11 ∧ reachCount < 31) →
         t.vd.chan ch.val = now c.fault current openCount reachCount
           (if current = 0 then none else if c.commanded = 0 then some u.now else c.ditherSince) ∧
         t = { u with vd := { u.vd with chans := t.vd.chans } }) ∧
       (c.fault = none → 11 ≤ openCount → taken .openLoad) ∧
       (c.fault = none → openCount < 11 → 31 ≤ reachCount → taken .notReached)) ∧
      ∀ k, k ≠ ch.val → t.vd.chan k = u.vd.chan k) ∧
  ∀ (s : State) (k : Nat),
    let c := s.vd.chan k
    (s.phase = .running → c.ditherSince = none → s.valveOutput k = 0) ∧
    (∀ since, s.phase = .running → c.ditherSince = some since →
      let p : Nat := (s.now - since) * (s.ret.config k).ditherFreq % 1000
      let driven (triangle : Int) : Prop :=
        (s.valveOutput k : Int) = max 0 (1000 * (c.commanded : Int) + (s.ret.config k).ditherAmp * triangle)
      (p < 250 → driven (4 * p)) ∧ (250 ≤ p → p < 750 → driven (2000 - 4 * p)) ∧ (750 ≤ p → driven (4 * p - 4000)))

/-- O55. OVER_CURRENT and CLEAR_VALVE_FAULT (R166, R167, R170): a sensed current above Imax + 300 mA makes a channel FAULTED and off
at once, and ends its drive test; the clear makes it OFF. FAULT_N is high exactly while the part runs, the supply is NORMAL and no
unmasked channel is FAULTED (R170). -/
def Obligations.OverCurrentTaken : Prop :=
  (∀ (s : State) (ch : Fin 4) (sensed : Nat) (b : Byte), s.Ready → s.vd.chans.length = 4 →
    let c := s.vd.chan ch.val
    let off : Channel :=
      { c with commanded := 0, openQual := 0, reachQual := 0, ditherSince := none, fault := some .overCurrent }
    let ended : Bool := s.vd.test.any (fun x => decide (x.channel = ch.val))
    let t : State :=
      { s with
        vd := { s.vd with
          chans := s.vd.chans.set ch.val off
          test := if ended then none else s.vd.test
          duration := if ended then none else s.vd.duration }
        nu := s.nu.take s.ret.settings.stretchMs (.cause (2 + ch.val) true) }
    (c.fault = none → (s.ret.config ch.val).imax + 300 < sensed →
      exec (.overCurrent ch sensed) s = .next t ∧ ((s.ret.config ch.val).mask = false → t.faultN = false)) ∧
    (c.fault.isSome ∨ sensed ≤ (s.ret.config ch.val).imax + 300 → exec (.overCurrent ch sensed) s = .next s) ∧
    (4 ≤ b.toNat → exec (.clearValveFault b) s = .next (s.answer 20 .badIndex [])) ∧
    (b.toNat < 4 → (s.vd.chan b.toNat).fault = none → exec (.clearValveFault b) s = .next (s.answer 20 .state [])) ∧
    (b.toNat < 4 → (s.vd.chan b.toNat).fault.isSome → exec (.clearValveFault b) s =
      .next (({ s with
        vd := { s.vd with chans := s.vd.chans.set b.toNat { s.vd.chan b.toNat with fault := none } }
        nu := s.nu.take s.ret.settings.stretchMs (.condition (2 + b.toNat) false) }).answer 20 .ok []))) ∧
  ∀ s : State, s.faultN = true ↔
    s.phase = .running ∧ s.vd.supplyLow = false ∧
      ∀ ch, ch < 4 → (s.vd.chan ch).fault = none ∨ (s.ret.config ch).mask = true

/-- O56. SUPPLY_VOLTAGE_CHANGE and the two qualification expiries (R168): a voltage below the down threshold starts 20 ms to LOW,
one at or above the up threshold 100 ms to NORMAL; entry into LOW switches every channel off and faults none. The model's
choice in both expiry clauses: the time the timer has left passes first (log entry 2). -/
def Obligations.SupplyQualified : Prop :=
  ∀ (s : State) (v left : Nat), s.Ready →
    let x := s.ret.settings
    let u := s.elapse left
    let started (below : Prop) [Decidable below] (old : Timer) (ms : Nat) : Timer :=
      if below then (if old.isSome then old else some ms) else none
    (s.vd.supplyLow = false → exec (.supplyVoltageChange v) s =
      .next { s with pins := { s.pins with supply := v }
                     vd := { s.vd with downQual := started (v < x.supplyDown) s.vd.downQual 20, upQual := none } }) ∧
    (s.vd.supplyLow = true → exec (.supplyVoltageChange v) s =
      .next { s with pins := { s.pins with supply := v }
                     vd := { s.vd with upQual := started (x.supplyUp ≤ v) s.vd.upQual 100, downQual := none } }) ∧
    (s.vd.supplyLow = false → s.vd.downQual = some left → s.pins.supply < x.supplyUp → s.vd.upQual = none →
      exec .downQualificationExpiry s =
        .next { u with
          vd := { u.vd with
            supplyLow := true, downQual := none, upQual := none
            chans := u.vd.chans.map (fun c =>
              { c with commanded := 0, openQual := 0, reachQual := 0, ditherSince := none }) }
          nu := u.nu.take x.stretchMs (.condition 1 true) }) ∧
    (s.vd.supplyLow = true → s.vd.upQual = some left → x.supplyDown ≤ s.pins.supply → s.vd.downQual = none →
      exec .upQualificationExpiry s =
        .next { u with vd := { u.vd with supplyLow := false, upQual := none, downQual := none }
                       nu := u.nu.take x.stretchMs (.condition 1 false) })

/-- O57. DRIVE_TEST, DRIVE_TEST_STOP, DURATION_TIMER_EXPIRY, SERVICE_KEY_RELEASE and SERVICE_KEY_ASSERTED (R136, R171, R172): the
checks in their order, the clamps, and the ends of a test by request, by duration and by the key. At the expiry the model's
choice is that the time the timer has left passes first (log entry 2). -/
def Obligations.DriveTestRuns : Prop :=
  ∀ (s : State) (b : Byte) (current duration : BitVec 16), s.Ready →
    let run := exec (.driveTest b current duration) s
    let imax := (s.ret.config b.toNat).imax
    let i : Nat := min current.toNat imax
    let d : Nat := max 1 (min duration.toNat 5000)
    let allowed := s.ec.state = .stopped ∨ s.ec.state = .idling
    let ended : Vd := { s.vd with test := none, duration := none }
    (s.pins.keyAsserted = false → run = .next (s.answer 21 .locked [])) ∧
    (s.pins.keyAsserted = true → 4 ≤ b.toNat → run = .next (s.answer 21 .badIndex [])) ∧
    (s.pins.keyAsserted = true → b.toNat < 4 → ¬allowed ∨ (s.vd.chan b.toNat).fault.isSome →
      run = .next (s.answer 21 .state [])) ∧
    (s.pins.keyAsserted = true → b.toNat < 4 → allowed → (s.vd.chan b.toNat).fault = none → run =
      .next (({ s with vd := { s.vd with test := some { channel := b.toNat, current := i }, duration := some d } }).answer 21
        (if i = current.toNat ∧ d = duration.toNat then .ok else .okClamped) [])) ∧
    (s.vd.test.isSome → exec .driveTestStop s = .next (({ s with vd := ended }).answer 22 .ok [])) ∧
    (s.vd.test = none → exec .driveTestStop s = .next (s.answer 22 .state [])) ∧
    (∀ left, s.vd.duration = some left → exec .durationTimerExpiry s =
      .next { s.elapse left with vd := { (s.elapse left).vd with test := none, duration := none } }) ∧
    exec .serviceKeyRelease s = .next { s with pins := { s.pins with keyAsserted := false }, vd := ended } ∧
    exec .serviceKeyAsserted s = .next { s with pins := { s.pins with keyAsserted := true } }

/-- O58. PUT_ENTRY and RETIRE_ENTRY on VALVE_CHANNELS (R160, R161): Imax is clamped first and the currents within it; a commanded
current above 0 is brought into the new range at once, a test target within the new Imax, and the owner's target is the one that
its record gives with the new figures, the floor record's own target following them on channel 2 (06 R101); a channel beyond 3 is
refused. The model's choice: a fault mask byte of 2..255 counts as yes and as clamped (log entry 20). -/
def Obligations.ChannelConfigured : Prop :=
  ∀ (s : State) (b : Byte) (imax start slow up down amp freq mask : Nat), s.Ready → s.TargetsSound →
    imax < 65536 → start < 65536 → slow < 65536 → up < 65536 → down < 65536 → amp < 65536 → freq < 65536 → mask < 256 →
    let top := max 100 (min 1500 imax)
    let g : ChannelConfig :=
      { imax := top, start := min top start, slow := if b.toNat < 2 then some (min top slow) else none
        rampUp := max 1 (min 200 up), rampDown := max 1 (min 200 down), ditherAmp := min 200 amp
        ditherFreq := max 50 (min 250 freq), mask := decide (mask ≠ 0) }
    let payload := toBe 2 imax ++ toBe 2 start ++ toBe 2 slow ++ toBe 2 up ++ toBe 2 down ++ toBe 2 amp ++ toBe 2 freq ++
      toBe 1 mask
    let fl := s.gg.floor
    let placed (g : ChannelConfig) (t : State) : Prop :=
      t.TargetsSound ∧
        t = { s with
          ret := { s.ret with configs := s.ret.configs.set b.toNat g }
          gg := { s.gg with floor := t.gg.floor }
          vd := { s.vd with chans := t.vd.chans, test := t.vd.test }
          link := { s.link with answer := t.link.answer } } ∧
        (b.toNat ≠ 2 → t.gg.floor = fl) ∧
        (b.toNat = 2 → t.gg.floor = { fl with
          target := floorTarget g.imax (if fl.state = .holding then fl.held.getD .none else fl.state) fl.band fl.dF }) ∧
        (let c := s.vd.chan b.toNat
         let current : Nat := if c.commanded = 0 then 0 else max g.start (min g.imax c.commanded)
         let brought : Prop := current ≠ c.commanded
         (brought → t.vd.chan b.toNat = { c with
           owner := (t.vd.chan b.toNat).owner, commanded := current, openQual := 0, reachQual := 0 }) ∧
         (¬brought → t.vd.chan b.toNat = { c with owner := (t.vd.chan b.toNat).owner })) ∧
        (∀ x, s.vd.test = some x → ∃ y, t.vd.test = some y ∧ y.channel = x.channel ∧
          y.current = if x.channel = b.toNat then min x.current g.imax else x.current) ∧
        (s.vd.test = none → t.vd.test = none) ∧
        (∀ k, k ≠ b.toNat → t.vd.chan k = s.vd.chan k)
    (b.toNat < 4 →
      (∃ t, exec (.putEntry 7 b payload) s = .next t ∧ placed g t ∧
        ∃ r, t.link.answer = some (.done 2 r [b]) ∧ (r = .ok ∨ r = .okClamped) ∧
          (r = .ok ↔ g.imax = imax ∧ g.start = start ∧ (b.toNat < 2 → min top slow = slow) ∧ g.rampUp = up ∧
            g.rampDown = down ∧ g.ditherAmp = amp ∧ g.ditherFreq = freq ∧ mask ≤ 1)) ∧
      (∃ t, exec (.retireEntry 7 b) s = .next t ∧ placed (defaultConfigs.getD b.toNat g) t ∧
        t.link.answer = some (.done 3 .ok []))) ∧
    (4 ≤ b.toNat →
      exec (.putEntry 7 b payload) s = .next (s.answer 2 .badIndex []) ∧
      exec (.retireEntry 7 b) s = .next (s.answer 3 .badIndex []))

/-! ### The Controller Link and the resets (chapter 11) -/

/-- O59. TRANSACTION_START, TRANSACTION_END, RESPONSE_READY and READ_NOTICES (R155, R175 to R178), and READY, ATTN and SDO (R152, R175,
R177): what SDO carries is fixed at the start; the end takes a request, discards it or consumes the response, as the table of R177
gives, and the end of a transaction that a reset has cut takes nothing (R185); a response carries the OVERLAP flag and the change
flag as they stand when it is prepared; READ_NOTICES returns the notices as they stand then and clears the change flag. The model's
choices: a read's content is formed in the step of RESPONSE_READY (log entry 11), and the places past the last entry carry absent
marks (log entry 15). -/
def Obligations.LinkMoves : Prop :=
  ∀ (s : State) (bytes : List Byte), s.Ready →
    let l := s.link
    let request := 1 ≤ bytes.length ∧ bytes.getD 0 0 ≠ 0
    let ends (x : Link) : Prop :=
      exec (.transactionEnd bytes) s =
        .next { s with pins := { s.pins with csLow := false }, link := { x with transaction := none } }
    let taken : Link :=
      { l with state := .working, overlap := false, request := some bytes, answer := linkAnswer bytes, response := none }
    let ready (code : Nat) (result : ResultCode) (payload : List Byte) : Link :=
      { l with
        state := .ready, request := none, answer := none
        response := some ([BitVec.ofNat 8 code, BitVec.ofNat 8 result.code,
          (if l.overlap then 1 else 0) + (if s.nu.changed then 2 else 0), BitVec.ofNat 8 payload.length] ++ payload) }
    let listed (k : Nat) : List Byte :=
      match s.nu.list[k]? with
      | none => [255, 255]
      | some n => toBe 1 n ++ toBe 1 (noticeAt s.nu.notices n).state.code
    let many (found : Nat → Bool) : List Byte := toBe 1 ((List.range 110).filter found).length
    (s.pins.csLow = false → exec .transactionStart s =
      .next { s with
        pins := { s.pins with csLow := true }
        link := { l with transaction := some { beganReady := decide (l.state = .ready)
                                               sdo := if l.state = .ready then l.response.getD [] else [] } } }) ∧
    (l.transaction = none → ends l) ∧
    (∀ x, l.transaction = some x →
      (l.state = .idle → ¬request → ends l) ∧ (l.state = .idle → request → ends taken) ∧
      (l.state = .working → ¬request → ends l) ∧ (l.state = .working → request → l.response = none → ends { l with overlap := true }) ∧
      (∀ r, l.state = .ready → l.response = some r →
        (x.beganReady = true → r.length ≤ bytes.length → request → ends taken) ∧
        (x.beganReady = true → r.length ≤ bytes.length → ¬request → ends { l with state := .idle, response := none }) ∧
        (x.beganReady = false ∨ bytes.length < r.length → ¬request → ends l) ∧
        (x.beganReady = false ∨ bytes.length < r.length → request →
          ends { l with overlap := true, response := some (r.set 2 (r.getD 2 0 ||| 1)) }))) ∧
    (∀ code result payload, l.state = .working → l.answer = some (.done code result payload) →
      exec .responseReady s = .next { s with link := ready code result payload }) ∧
    (l.state ≠ .working ∨ l.answer = none → exec .responseReady s = .next s) ∧
    exec .readNotices s = .next { s with link := { l with answer := some (.read .notices) } } ∧
    (l.state = .working → l.answer = some (.read .notices) → exec .responseReady s = .next { s with
      nu := { s.nu with changed := false }
      link := ready 13 .ok ((List.range 8).flatMap listed ++ toBe 1 s.nu.list.length ++ many (isRaised s.nu.notices) ++
        many (isAcked s.nu.notices) ++ toBe 1 (if s.nu.changed then 1 else 0)) }) ∧
    (s.readyLine = true ↔ l.state = .ready) ∧ (s.attnLine = true ↔ s.nu.changed = true) ∧
    (∀ k, s.sdoByte k = match l.transaction with | none => 0 | some x => x.sdo.getD k 0)

/-- O60. The resets, power and CLEAR_RETAINED (R183 to R186): a reset keeps the retained contents, but for the states of service
items judged afresh, and starts every block as its reset rule gives: the slots and the transmit side (R11, R17), the counter (R32),
the pose (R50), the table (R69), the limit record (R87), the Guidance record, floor record and hold (R104), the economy (R126), the
notices as the starting reports leave them from all CLEAR, the list in order, both lamps flashing for them and the change flag set
(R159), the channels (R174), the link (R185); a power-on after a dropped backup finds the contents lost; while RESET_N is low the
part does not run, a power-on included; CLEAR_RETAINED needs the key and STOPPED, returns every content but the meters to its
default and raises no notice 0. The model's choices: POWER_ON starts the part from any phase, and RESET from a running part (log
entry 21); held or unpowered, the volatile state stands until the next start (log entry 30); a power-on with RESET_N low sets the
volatile state too, and a loss it found is reported at the release (log entry 38); the still threshold of the latest gate starts at
the setting (log entry 32). -/
def Obligations.ResetsAndPower : Prop :=
  ∀ s : State, s.inbox = [] →
    let same (a b : Retained) : Prop :=
      a = { b with items := b.items.map (Option.map (fun it =>
        { it with state := itemStateOf it.interval it.lead it.grace (it.progress b) })) }
    let first : Pose := { seq := 0, quality := .invalid, phi := none, omega := 0, r := none, z := none, x := none, y := none }
    let slotOf (x : SourceRecord) : SourceSlot :=
      if x.identifier.isSome then { state := .never, lastGood := none, lastTime := none, timer := some x.timeout }
      else { state := .disabled, lastGood := none, lastTime := none, timer := none }
    let channelOf (owner : Nat) : Channel :=
      { owner := owner, commanded := 0, measured := 0, sensed := [], fault := none, openQual := 0, reachQual := 0
        ramp := some 10, ditherSince := none }
    let lit : LampState := { mode := .flashing, lit := true, flash := some 500, stretch := none }
    let loss (found : Bool) : List Report := if found then [.cause 0 false] else []
    let started (t : State) (phase : Phase) (pins : Pins) (extra : List Report) : Prop :=
      let x := t.ret.settings
      let copied (i : Nat) : SourceState := (slotOf (t.ret.sources.getD i (sourceDefault 0 0))).state
      t.phase = phase ∧ t.pins = pins ∧ t.now = s.now ∧ t.pending = s.pending ∧ t.link = startLink ∧
      t.mbp = { slots := t.ret.sources.map slotOf, busOff := false, rolling := 0, unsent := 0, built := false, acked := false
                deferred := false, waiting := none, recovery := none
                period := if x.demandEnable = true ∧ x.demandId.isSome = true then some 50 else none } ∧
      t.sc = { count := 0, referenced := false, travel := 0, gateAcc := 0, omega := 0, runDir := .none, runCount := 0
               gate := some 10 } ∧
      t.pu = { gatePhi := 0, gateRef := false, gateOmega := 0, links := [copied 0, copied 1, copied 2], pose := first
               detector := .waitDig } ∧
      t.zt = { isOpen := false, edit := none, engaged := List.replicate 12 false } ∧
      t.slm = { held := first, record := limitRecord t.ret false first } ∧
      t.gg = { held := first, guidance := { seq := 0, target := t.ret.selection, state := .noPose, d := none }
               floor := { state := .none, held := none, index := none, dF := none, band := none, target := 0 }, hold := none } ∧
      t.ec = { copies := [3, 4, 5, 6, 7].map (fun i => ⟨copied i, none⟩), omega := 0, gateStill := x.still, active := true
               state := .stopped, autoIdle := none, shutdown := none, wait := none, oilLatch := false
               torque := torqueLimit t.ret .stopped false, partialMs := 0, overMs := 0, pumpSum := 0, pumpCount := 0
               prevFuel := none, fuelRem := 0 } ∧
      t.vd = { chans := [channelOf (slewTarget (t.ret.config 0) t.slm.record.left),
                         channelOf (slewTarget (t.ret.config 1) t.slm.record.right), channelOf 0,
                         channelOf (torqueTarget (t.ret.config 3).imax t.ec.torque)]
               supplyLow := true, downQual := none, test := none, duration := none
               upQual := if x.supplyUp ≤ pins.supply then some 100 else none } ∧
      t.nu.changed = true ∧ t.nu.Sound ∧ t.nu.red = lit ∧ t.nu.amber = lit ∧
      t.nu.notices = noticesAfter ([.condition 35 true] ++ limitConditions t.slm.record ++ floorConditions t.gg.floor ++
        [.condition 36 (decide (t.ret.geometry.dims = none))] ++
        (List.range t.ret.items.length).flatMap (fun i => itemConditions i none ((t.ret.item i).map Item.state)) ++
        [.condition 1 true] ++ extra) (List.replicate 110 ⟨.clear, false⟩) ∧
      t.ret.ItemsSound
    let released : Pins := { s.pins with resetLow := false }
    (s.phase = .running → ∃ t, exec .restart s = .next t ∧ started t .running s.pins [] ∧ same t.ret s.ret ∧
      t.lossUnreported = false) ∧
    (s.phase ≠ .unpowered → ∃ t, exec .reset s = .next t ∧ started t .running released (loss s.lossUnreported) ∧
      same t.ret s.ret ∧ t.lossUnreported = false) ∧
    (s.phase = .unpowered → exec .reset s = .next { s with pins := released }) ∧
    (∃ t, exec .powerOn s = .next t ∧ started t (if s.pins.resetLow then .held else .running) s.pins (loss s.backupDropped) ∧
      (s.backupDropped = false → same t.ret s.ret) ∧ (s.backupDropped = true → t.ret = defaultRetained) ∧
      t.backupDropped = false ∧ t.lossUnreported = (s.pins.resetLow && s.backupDropped)) ∧
    exec .resetNAsserted s = .next { s with
      pins := { s.pins with resetLow := true }, phase := if s.phase = .running then .held else s.phase } ∧
    exec .powerLoss s = .next { s with phase := .unpowered } ∧
    (s.phase = .unpowered → exec .backupDropped s = .next { s with backupDropped := true }) ∧
    (s.phase = .running → s.pins.keyAsserted = false → exec .clearRetained s = .next (s.answer 23 .locked [])) ∧
    (s.phase = .running → s.pins.keyAsserted = true → s.ec.state ≠ .stopped →
      exec .clearRetained s = .next (s.answer 23 .state [])) ∧
    (s.phase = .running → s.pins.keyAsserted = true → s.ec.state = .stopped → s.ret.sources.length = 8 →
      s.ret.configs.length = 4 → ∃ t, exec .clearRetained s = .next t ∧
        t.ret = { defaultRetained with engineMeter := s.ret.engineMeter, weightedMeter := s.ret.weightedMeter } ∧
        noticeAt t.nu.notices 0 = noticeAt s.nu.notices 0 ∧ t.zt.isOpen = s.zt.isOpen ∧ t.zt.edit = s.zt.edit ∧
        t.link = { s.link with answer := some (.done 23 .ok []) })
end

