-- ==== Sys2Proof/Laws/State.lean ====
section
/-! SUPPORT. One lemma per field per update of the state: what each named update leaves as it was, and what it writes. -/

namespace Sys2Proof.Machine

variable (s : State)

/-! ### setSlot -/

@[simp] theorem State.setSlot_pending (i : Nat) (x : SourceSlot) : (s.setSlot i x).pending = s.pending := rfl
@[simp] theorem State.setSlot_phase (i : Nat) (x : SourceSlot) : (s.setSlot i x).phase = s.phase := rfl
@[simp] theorem State.setSlot_now (i : Nat) (x : SourceSlot) : (s.setSlot i x).now = s.now := rfl
@[simp] theorem State.setSlot_backupDropped (i : Nat) (x : SourceSlot) : (s.setSlot i x).backupDropped = s.backupDropped := rfl
@[simp] theorem State.setSlot_lossUnreported (i : Nat) (x : SourceSlot) : (s.setSlot i x).lossUnreported = s.lossUnreported := rfl
@[simp] theorem State.setSlot_pins (i : Nat) (x : SourceSlot) : (s.setSlot i x).pins = s.pins := rfl
@[simp] theorem State.setSlot_ret (i : Nat) (x : SourceSlot) : (s.setSlot i x).ret = s.ret := rfl
@[simp] theorem State.setSlot_sc (i : Nat) (x : SourceSlot) : (s.setSlot i x).sc = s.sc := rfl
@[simp] theorem State.setSlot_pu (i : Nat) (x : SourceSlot) : (s.setSlot i x).pu = s.pu := rfl
@[simp] theorem State.setSlot_zt (i : Nat) (x : SourceSlot) : (s.setSlot i x).zt = s.zt := rfl
@[simp] theorem State.setSlot_slm (i : Nat) (x : SourceSlot) : (s.setSlot i x).slm = s.slm := rfl
@[simp] theorem State.setSlot_gg (i : Nat) (x : SourceSlot) : (s.setSlot i x).gg = s.gg := rfl
@[simp] theorem State.setSlot_ec (i : Nat) (x : SourceSlot) : (s.setSlot i x).ec = s.ec := rfl
@[simp] theorem State.setSlot_nu (i : Nat) (x : SourceSlot) : (s.setSlot i x).nu = s.nu := rfl
@[simp] theorem State.setSlot_vd (i : Nat) (x : SourceSlot) : (s.setSlot i x).vd = s.vd := rfl
@[simp] theorem State.setSlot_link (i : Nat) (x : SourceSlot) : (s.setSlot i x).link = s.link := rfl
@[simp] theorem State.setSlot_inbox (i : Nat) (x : SourceSlot) : (s.setSlot i x).inbox = s.inbox := rfl
@[simp] theorem State.setSlot_choice (i : Nat) (x : SourceSlot) : (s.setSlot i x).choice = s.choice := rfl

/-! ### setSource -/

@[simp] theorem State.setSource_pending (i : Nat) (x : SourceRecord) : (s.setSource i x).pending = s.pending := rfl
@[simp] theorem State.setSource_phase (i : Nat) (x : SourceRecord) : (s.setSource i x).phase = s.phase := rfl
@[simp] theorem State.setSource_now (i : Nat) (x : SourceRecord) : (s.setSource i x).now = s.now := rfl
@[simp] theorem State.setSource_backupDropped (i : Nat) (x : SourceRecord) : (s.setSource i x).backupDropped = s.backupDropped := rfl
@[simp] theorem State.setSource_lossUnreported (i : Nat) (x : SourceRecord) : (s.setSource i x).lossUnreported = s.lossUnreported := rfl
@[simp] theorem State.setSource_pins (i : Nat) (x : SourceRecord) : (s.setSource i x).pins = s.pins := rfl
@[simp] theorem State.setSource_mbp (i : Nat) (x : SourceRecord) : (s.setSource i x).mbp = s.mbp := rfl
@[simp] theorem State.setSource_sc (i : Nat) (x : SourceRecord) : (s.setSource i x).sc = s.sc := rfl
@[simp] theorem State.setSource_pu (i : Nat) (x : SourceRecord) : (s.setSource i x).pu = s.pu := rfl
@[simp] theorem State.setSource_zt (i : Nat) (x : SourceRecord) : (s.setSource i x).zt = s.zt := rfl
@[simp] theorem State.setSource_slm (i : Nat) (x : SourceRecord) : (s.setSource i x).slm = s.slm := rfl
@[simp] theorem State.setSource_gg (i : Nat) (x : SourceRecord) : (s.setSource i x).gg = s.gg := rfl
@[simp] theorem State.setSource_ec (i : Nat) (x : SourceRecord) : (s.setSource i x).ec = s.ec := rfl
@[simp] theorem State.setSource_nu (i : Nat) (x : SourceRecord) : (s.setSource i x).nu = s.nu := rfl
@[simp] theorem State.setSource_vd (i : Nat) (x : SourceRecord) : (s.setSource i x).vd = s.vd := rfl
@[simp] theorem State.setSource_link (i : Nat) (x : SourceRecord) : (s.setSource i x).link = s.link := rfl
@[simp] theorem State.setSource_inbox (i : Nat) (x : SourceRecord) : (s.setSource i x).inbox = s.inbox := rfl
@[simp] theorem State.setSource_choice (i : Nat) (x : SourceRecord) : (s.setSource i x).choice = s.choice := rfl

/-! ### setSettings -/

@[simp] theorem State.setSettings_pending (x : Settings) : (s.setSettings x).pending = s.pending := rfl
@[simp] theorem State.setSettings_phase (x : Settings) : (s.setSettings x).phase = s.phase := rfl
@[simp] theorem State.setSettings_now (x : Settings) : (s.setSettings x).now = s.now := rfl
@[simp] theorem State.setSettings_backupDropped (x : Settings) : (s.setSettings x).backupDropped = s.backupDropped := rfl
@[simp] theorem State.setSettings_lossUnreported (x : Settings) : (s.setSettings x).lossUnreported = s.lossUnreported := rfl
@[simp] theorem State.setSettings_pins (x : Settings) : (s.setSettings x).pins = s.pins := rfl
@[simp] theorem State.setSettings_mbp (x : Settings) : (s.setSettings x).mbp = s.mbp := rfl
@[simp] theorem State.setSettings_sc (x : Settings) : (s.setSettings x).sc = s.sc := rfl
@[simp] theorem State.setSettings_pu (x : Settings) : (s.setSettings x).pu = s.pu := rfl
@[simp] theorem State.setSettings_zt (x : Settings) : (s.setSettings x).zt = s.zt := rfl
@[simp] theorem State.setSettings_slm (x : Settings) : (s.setSettings x).slm = s.slm := rfl
@[simp] theorem State.setSettings_gg (x : Settings) : (s.setSettings x).gg = s.gg := rfl
@[simp] theorem State.setSettings_ec (x : Settings) : (s.setSettings x).ec = s.ec := rfl
@[simp] theorem State.setSettings_nu (x : Settings) : (s.setSettings x).nu = s.nu := rfl
@[simp] theorem State.setSettings_vd (x : Settings) : (s.setSettings x).vd = s.vd := rfl
@[simp] theorem State.setSettings_link (x : Settings) : (s.setSettings x).link = s.link := rfl
@[simp] theorem State.setSettings_inbox (x : Settings) : (s.setSettings x).inbox = s.inbox := rfl
@[simp] theorem State.setSettings_choice (x : Settings) : (s.setSettings x).choice = s.choice := rfl
@[simp] theorem State.setSettings_ret (x : Settings) :
    (s.setSettings x).ret = { s.ret with settings := x } := rfl

/-! ### report -/

@[simp] theorem State.report_pending (rs : List Report) : (s.report rs).pending = s.pending := rfl
@[simp] theorem State.report_phase (rs : List Report) : (s.report rs).phase = s.phase := rfl
@[simp] theorem State.report_now (rs : List Report) : (s.report rs).now = s.now := rfl
@[simp] theorem State.report_backupDropped (rs : List Report) : (s.report rs).backupDropped = s.backupDropped := rfl
@[simp] theorem State.report_lossUnreported (rs : List Report) : (s.report rs).lossUnreported = s.lossUnreported := rfl
@[simp] theorem State.report_pins (rs : List Report) : (s.report rs).pins = s.pins := rfl
@[simp] theorem State.report_ret (rs : List Report) : (s.report rs).ret = s.ret := rfl
@[simp] theorem State.report_mbp (rs : List Report) : (s.report rs).mbp = s.mbp := rfl
@[simp] theorem State.report_sc (rs : List Report) : (s.report rs).sc = s.sc := rfl
@[simp] theorem State.report_pu (rs : List Report) : (s.report rs).pu = s.pu := rfl
@[simp] theorem State.report_zt (rs : List Report) : (s.report rs).zt = s.zt := rfl
@[simp] theorem State.report_slm (rs : List Report) : (s.report rs).slm = s.slm := rfl
@[simp] theorem State.report_gg (rs : List Report) : (s.report rs).gg = s.gg := rfl
@[simp] theorem State.report_ec (rs : List Report) : (s.report rs).ec = s.ec := rfl
@[simp] theorem State.report_nu (rs : List Report) : (s.report rs).nu = s.nu := rfl
@[simp] theorem State.report_vd (rs : List Report) : (s.report rs).vd = s.vd := rfl
@[simp] theorem State.report_link (rs : List Report) : (s.report rs).link = s.link := rfl
@[simp] theorem State.report_choice (rs : List Report) : (s.report rs).choice = s.choice := rfl
@[simp] theorem State.report_inbox (rs : List Report) :
    (s.report rs).inbox = s.inbox ++ rs := rfl

/-! ### deliver -/

@[simp] theorem State.deliver_pending : (s.deliver).pending = s.pending := rfl
@[simp] theorem State.deliver_phase : (s.deliver).phase = s.phase := rfl
@[simp] theorem State.deliver_now : (s.deliver).now = s.now := rfl
@[simp] theorem State.deliver_backupDropped : (s.deliver).backupDropped = s.backupDropped := rfl
@[simp] theorem State.deliver_lossUnreported : (s.deliver).lossUnreported = s.lossUnreported := rfl
@[simp] theorem State.deliver_pins : (s.deliver).pins = s.pins := rfl
@[simp] theorem State.deliver_ret : (s.deliver).ret = s.ret := rfl
@[simp] theorem State.deliver_mbp : (s.deliver).mbp = s.mbp := rfl
@[simp] theorem State.deliver_sc : (s.deliver).sc = s.sc := rfl
@[simp] theorem State.deliver_pu : (s.deliver).pu = s.pu := rfl
@[simp] theorem State.deliver_zt : (s.deliver).zt = s.zt := rfl
@[simp] theorem State.deliver_slm : (s.deliver).slm = s.slm := rfl
@[simp] theorem State.deliver_gg : (s.deliver).gg = s.gg := rfl
@[simp] theorem State.deliver_ec : (s.deliver).ec = s.ec := rfl
@[simp] theorem State.deliver_vd : (s.deliver).vd = s.vd := rfl
@[simp] theorem State.deliver_link : (s.deliver).link = s.link := rfl
@[simp] theorem State.deliver_inbox :
    (s.deliver).inbox = [] := rfl

/-! ### answer -/

@[simp] theorem State.answer_pending (code : Nat) (r : ResultCode) (p : List Byte) : (s.answer code r p).pending = s.pending := rfl
@[simp] theorem State.answer_phase (code : Nat) (r : ResultCode) (p : List Byte) : (s.answer code r p).phase = s.phase := rfl
@[simp] theorem State.answer_now (code : Nat) (r : ResultCode) (p : List Byte) : (s.answer code r p).now = s.now := rfl
@[simp] theorem State.answer_backupDropped (code : Nat) (r : ResultCode) (p : List Byte) : (s.answer code r p).backupDropped = s.backupDropped := rfl
@[simp] theorem State.answer_lossUnreported (code : Nat) (r : ResultCode) (p : List Byte) : (s.answer code r p).lossUnreported = s.lossUnreported := rfl
@[simp] theorem State.answer_pins (code : Nat) (r : ResultCode) (p : List Byte) : (s.answer code r p).pins = s.pins := rfl
@[simp] theorem State.answer_ret (code : Nat) (r : ResultCode) (p : List Byte) : (s.answer code r p).ret = s.ret := rfl
@[simp] theorem State.answer_mbp (code : Nat) (r : ResultCode) (p : List Byte) : (s.answer code r p).mbp = s.mbp := rfl
@[simp] theorem State.answer_sc (code : Nat) (r : ResultCode) (p : List Byte) : (s.answer code r p).sc = s.sc := rfl
@[simp] theorem State.answer_pu (code : Nat) (r : ResultCode) (p : List Byte) : (s.answer code r p).pu = s.pu := rfl
@[simp] theorem State.answer_zt (code : Nat) (r : ResultCode) (p : List Byte) : (s.answer code r p).zt = s.zt := rfl
@[simp] theorem State.answer_slm (code : Nat) (r : ResultCode) (p : List Byte) : (s.answer code r p).slm = s.slm := rfl
@[simp] theorem State.answer_gg (code : Nat) (r : ResultCode) (p : List Byte) : (s.answer code r p).gg = s.gg := rfl
@[simp] theorem State.answer_ec (code : Nat) (r : ResultCode) (p : List Byte) : (s.answer code r p).ec = s.ec := rfl
@[simp] theorem State.answer_nu (code : Nat) (r : ResultCode) (p : List Byte) : (s.answer code r p).nu = s.nu := rfl
@[simp] theorem State.answer_vd (code : Nat) (r : ResultCode) (p : List Byte) : (s.answer code r p).vd = s.vd := rfl
@[simp] theorem State.answer_inbox (code : Nat) (r : ResultCode) (p : List Byte) : (s.answer code r p).inbox = s.inbox := rfl
@[simp] theorem State.answer_choice (code : Nat) (r : ResultCode) (p : List Byte) : (s.answer code r p).choice = s.choice := rfl
@[simp] theorem State.answer_link (code : Nat) (r : ResultCode) (p : List Byte) :
    (s.answer code r p).link = { s.link with answer := some (.done code r p) } := rfl

/-! ### ask -/

@[simp] theorem State.ask_pending (q : ReadRequest) : (s.ask q).pending = s.pending := rfl
@[simp] theorem State.ask_phase (q : ReadRequest) : (s.ask q).phase = s.phase := rfl
@[simp] theorem State.ask_now (q : ReadRequest) : (s.ask q).now = s.now := rfl
@[simp] theorem State.ask_backupDropped (q : ReadRequest) : (s.ask q).backupDropped = s.backupDropped := rfl
@[simp] theorem State.ask_lossUnreported (q : ReadRequest) : (s.ask q).lossUnreported = s.lossUnreported := rfl
@[simp] theorem State.ask_pins (q : ReadRequest) : (s.ask q).pins = s.pins := rfl
@[simp] theorem State.ask_ret (q : ReadRequest) : (s.ask q).ret = s.ret := rfl
@[simp] theorem State.ask_mbp (q : ReadRequest) : (s.ask q).mbp = s.mbp := rfl
@[simp] theorem State.ask_sc (q : ReadRequest) : (s.ask q).sc = s.sc := rfl
@[simp] theorem State.ask_pu (q : ReadRequest) : (s.ask q).pu = s.pu := rfl
@[simp] theorem State.ask_zt (q : ReadRequest) : (s.ask q).zt = s.zt := rfl
@[simp] theorem State.ask_slm (q : ReadRequest) : (s.ask q).slm = s.slm := rfl
@[simp] theorem State.ask_gg (q : ReadRequest) : (s.ask q).gg = s.gg := rfl
@[simp] theorem State.ask_ec (q : ReadRequest) : (s.ask q).ec = s.ec := rfl
@[simp] theorem State.ask_nu (q : ReadRequest) : (s.ask q).nu = s.nu := rfl
@[simp] theorem State.ask_vd (q : ReadRequest) : (s.ask q).vd = s.vd := rfl
@[simp] theorem State.ask_inbox (q : ReadRequest) : (s.ask q).inbox = s.inbox := rfl
@[simp] theorem State.ask_choice (q : ReadRequest) : (s.ask q).choice = s.choice := rfl
@[simp] theorem State.ask_link (q : ReadRequest) : (s.ask q).link = { s.link with answer := some (.read q) } := rfl

/-! ### elapse -/

@[simp] theorem State.elapse_pending (dt : Nat) : (s.elapse dt).pending = s.pending := rfl
@[simp] theorem State.elapse_phase (dt : Nat) : (s.elapse dt).phase = s.phase := rfl
@[simp] theorem State.elapse_backupDropped (dt : Nat) : (s.elapse dt).backupDropped = s.backupDropped := rfl
@[simp] theorem State.elapse_lossUnreported (dt : Nat) : (s.elapse dt).lossUnreported = s.lossUnreported := rfl
@[simp] theorem State.elapse_pins (dt : Nat) : (s.elapse dt).pins = s.pins := rfl
@[simp] theorem State.elapse_ret (dt : Nat) : (s.elapse dt).ret = s.ret := rfl
@[simp] theorem State.elapse_pu (dt : Nat) : (s.elapse dt).pu = s.pu := rfl
@[simp] theorem State.elapse_slm (dt : Nat) : (s.elapse dt).slm = s.slm := rfl
@[simp] theorem State.elapse_link (dt : Nat) : (s.elapse dt).link = s.link := rfl
@[simp] theorem State.elapse_inbox (dt : Nat) : (s.elapse dt).inbox = s.inbox := rfl
@[simp] theorem State.elapse_choice (dt : Nat) : (s.elapse dt).choice = s.choice := rfl
@[simp] theorem State.elapse_now (dt : Nat) :
    (s.elapse dt).now = s.now + dt := rfl
@[simp] theorem State.elapse_sc (dt : Nat) :
    (s.elapse dt).sc = { s.sc with gate := s.sc.gate.elapse dt } := rfl
@[simp] theorem State.elapse_zt (dt : Nat) :
    (s.elapse dt).zt = { s.zt with edit := s.zt.edit.elapse dt } := rfl
@[simp] theorem State.elapse_gg (dt : Nat) :
    (s.elapse dt).gg = { s.gg with hold := s.gg.hold.elapse dt } := rfl
@[simp] theorem State.elapse_vd (dt : Nat) :
    (s.elapse dt).vd = s.vd.elapse dt := rfl
@[simp] theorem State.elapse_mbp (dt : Nat) :
    (s.elapse dt).mbp = s.mbp.elapse dt := rfl
@[simp] theorem State.elapse_ec (dt : Nat) :
    (s.elapse dt).ec = s.ec.elapse s.metering dt := rfl

/-! ### takeFault -/

@[simp] theorem State.takeFault_pending (ch : Nat) (k : FaultKind) : (s.takeFault ch k).pending = s.pending := rfl
@[simp] theorem State.takeFault_phase (ch : Nat) (k : FaultKind) : (s.takeFault ch k).phase = s.phase := rfl
@[simp] theorem State.takeFault_now (ch : Nat) (k : FaultKind) : (s.takeFault ch k).now = s.now := rfl
@[simp] theorem State.takeFault_backupDropped (ch : Nat) (k : FaultKind) : (s.takeFault ch k).backupDropped = s.backupDropped := rfl
@[simp] theorem State.takeFault_lossUnreported (ch : Nat) (k : FaultKind) : (s.takeFault ch k).lossUnreported = s.lossUnreported := rfl
@[simp] theorem State.takeFault_pins (ch : Nat) (k : FaultKind) : (s.takeFault ch k).pins = s.pins := rfl
@[simp] theorem State.takeFault_ret (ch : Nat) (k : FaultKind) : (s.takeFault ch k).ret = s.ret := rfl
@[simp] theorem State.takeFault_mbp (ch : Nat) (k : FaultKind) : (s.takeFault ch k).mbp = s.mbp := rfl
@[simp] theorem State.takeFault_sc (ch : Nat) (k : FaultKind) : (s.takeFault ch k).sc = s.sc := rfl
@[simp] theorem State.takeFault_pu (ch : Nat) (k : FaultKind) : (s.takeFault ch k).pu = s.pu := rfl
@[simp] theorem State.takeFault_zt (ch : Nat) (k : FaultKind) : (s.takeFault ch k).zt = s.zt := rfl
@[simp] theorem State.takeFault_slm (ch : Nat) (k : FaultKind) : (s.takeFault ch k).slm = s.slm := rfl
@[simp] theorem State.takeFault_gg (ch : Nat) (k : FaultKind) : (s.takeFault ch k).gg = s.gg := rfl
@[simp] theorem State.takeFault_ec (ch : Nat) (k : FaultKind) : (s.takeFault ch k).ec = s.ec := rfl
@[simp] theorem State.takeFault_nu (ch : Nat) (k : FaultKind) : (s.takeFault ch k).nu = s.nu := rfl
@[simp] theorem State.takeFault_link (ch : Nat) (k : FaultKind) : (s.takeFault ch k).link = s.link := rfl
@[simp] theorem State.takeFault_choice (ch : Nat) (k : FaultKind) : (s.takeFault ch k).choice = s.choice := rfl

/-! ### evaluateLimits -/

@[simp] theorem State.evaluateLimits_pending : (s.evaluateLimits).pending = s.pending := rfl
@[simp] theorem State.evaluateLimits_phase : (s.evaluateLimits).phase = s.phase := rfl
@[simp] theorem State.evaluateLimits_now : (s.evaluateLimits).now = s.now := rfl
@[simp] theorem State.evaluateLimits_backupDropped : (s.evaluateLimits).backupDropped = s.backupDropped := rfl
@[simp] theorem State.evaluateLimits_lossUnreported : (s.evaluateLimits).lossUnreported = s.lossUnreported := rfl
@[simp] theorem State.evaluateLimits_pins : (s.evaluateLimits).pins = s.pins := rfl
@[simp] theorem State.evaluateLimits_ret : (s.evaluateLimits).ret = s.ret := rfl
@[simp] theorem State.evaluateLimits_mbp : (s.evaluateLimits).mbp = s.mbp := rfl
@[simp] theorem State.evaluateLimits_sc : (s.evaluateLimits).sc = s.sc := rfl
@[simp] theorem State.evaluateLimits_pu : (s.evaluateLimits).pu = s.pu := rfl
@[simp] theorem State.evaluateLimits_gg : (s.evaluateLimits).gg = s.gg := rfl
@[simp] theorem State.evaluateLimits_ec : (s.evaluateLimits).ec = s.ec := rfl
@[simp] theorem State.evaluateLimits_nu : (s.evaluateLimits).nu = s.nu := rfl
@[simp] theorem State.evaluateLimits_link : (s.evaluateLimits).link = s.link := rfl
@[simp] theorem State.evaluateLimits_choice : (s.evaluateLimits).choice = s.choice := rfl
@[simp] theorem State.evaluateLimits_slm :
    (s.evaluateLimits).slm = { s.slm with record := limitRecord s.ret s.zt.isOpen s.slm.held } := rfl
@[simp] theorem State.evaluateLimits_vd :
    (s.evaluateLimits).vd = handSlewTargets s.ret (limitRecord s.ret s.zt.isOpen s.slm.held) s.vd := rfl

/-! ### setFloor -/

@[simp] theorem State.setFloor_pending (f : FloorRecord) (hold : Timer) : (s.setFloor f hold).pending = s.pending := rfl
@[simp] theorem State.setFloor_phase (f : FloorRecord) (hold : Timer) : (s.setFloor f hold).phase = s.phase := rfl
@[simp] theorem State.setFloor_now (f : FloorRecord) (hold : Timer) : (s.setFloor f hold).now = s.now := rfl
@[simp] theorem State.setFloor_backupDropped (f : FloorRecord) (hold : Timer) : (s.setFloor f hold).backupDropped = s.backupDropped := rfl
@[simp] theorem State.setFloor_lossUnreported (f : FloorRecord) (hold : Timer) : (s.setFloor f hold).lossUnreported = s.lossUnreported := rfl
@[simp] theorem State.setFloor_pins (f : FloorRecord) (hold : Timer) : (s.setFloor f hold).pins = s.pins := rfl
@[simp] theorem State.setFloor_ret (f : FloorRecord) (hold : Timer) : (s.setFloor f hold).ret = s.ret := rfl
@[simp] theorem State.setFloor_mbp (f : FloorRecord) (hold : Timer) : (s.setFloor f hold).mbp = s.mbp := rfl
@[simp] theorem State.setFloor_sc (f : FloorRecord) (hold : Timer) : (s.setFloor f hold).sc = s.sc := rfl
@[simp] theorem State.setFloor_pu (f : FloorRecord) (hold : Timer) : (s.setFloor f hold).pu = s.pu := rfl
@[simp] theorem State.setFloor_zt (f : FloorRecord) (hold : Timer) : (s.setFloor f hold).zt = s.zt := rfl
@[simp] theorem State.setFloor_slm (f : FloorRecord) (hold : Timer) : (s.setFloor f hold).slm = s.slm := rfl
@[simp] theorem State.setFloor_ec (f : FloorRecord) (hold : Timer) : (s.setFloor f hold).ec = s.ec := rfl
@[simp] theorem State.setFloor_nu (f : FloorRecord) (hold : Timer) : (s.setFloor f hold).nu = s.nu := rfl
@[simp] theorem State.setFloor_link (f : FloorRecord) (hold : Timer) : (s.setFloor f hold).link = s.link := rfl
@[simp] theorem State.setFloor_choice (f : FloorRecord) (hold : Timer) : (s.setFloor f hold).choice = s.choice := rfl
@[simp] theorem State.setFloor_gg (f : FloorRecord) (hold : Timer) :
    (s.setFloor f hold).gg = { s.gg with floor := f, hold := hold } := rfl
@[simp] theorem State.setFloor_vd (f : FloorRecord) (hold : Timer) :
    (s.setFloor f hold).vd = s.vd.hand 2 f.target := rfl

/-! ### evaluateGrade -/

@[simp] theorem State.evaluateGrade_pending : (s.evaluateGrade).pending = s.pending := rfl
@[simp] theorem State.evaluateGrade_phase : (s.evaluateGrade).phase = s.phase := rfl
@[simp] theorem State.evaluateGrade_now : (s.evaluateGrade).now = s.now := rfl
@[simp] theorem State.evaluateGrade_backupDropped : (s.evaluateGrade).backupDropped = s.backupDropped := rfl
@[simp] theorem State.evaluateGrade_lossUnreported : (s.evaluateGrade).lossUnreported = s.lossUnreported := rfl
@[simp] theorem State.evaluateGrade_pins : (s.evaluateGrade).pins = s.pins := rfl
@[simp] theorem State.evaluateGrade_ret : (s.evaluateGrade).ret = s.ret := rfl
@[simp] theorem State.evaluateGrade_mbp : (s.evaluateGrade).mbp = s.mbp := rfl
@[simp] theorem State.evaluateGrade_sc : (s.evaluateGrade).sc = s.sc := rfl
@[simp] theorem State.evaluateGrade_pu : (s.evaluateGrade).pu = s.pu := rfl
@[simp] theorem State.evaluateGrade_zt : (s.evaluateGrade).zt = s.zt := rfl
@[simp] theorem State.evaluateGrade_slm : (s.evaluateGrade).slm = s.slm := rfl
@[simp] theorem State.evaluateGrade_ec : (s.evaluateGrade).ec = s.ec := rfl
@[simp] theorem State.evaluateGrade_nu : (s.evaluateGrade).nu = s.nu := rfl
@[simp] theorem State.evaluateGrade_link : (s.evaluateGrade).link = s.link := rfl
@[simp] theorem State.evaluateGrade_choice : (s.evaluateGrade).choice = s.choice := rfl

/-! ### workOutTorque -/

@[simp] theorem State.workOutTorque_pending : (s.workOutTorque).pending = s.pending := rfl
@[simp] theorem State.workOutTorque_phase : (s.workOutTorque).phase = s.phase := rfl
@[simp] theorem State.workOutTorque_now : (s.workOutTorque).now = s.now := rfl
@[simp] theorem State.workOutTorque_backupDropped : (s.workOutTorque).backupDropped = s.backupDropped := rfl
@[simp] theorem State.workOutTorque_lossUnreported : (s.workOutTorque).lossUnreported = s.lossUnreported := rfl
@[simp] theorem State.workOutTorque_pins : (s.workOutTorque).pins = s.pins := rfl
@[simp] theorem State.workOutTorque_ret : (s.workOutTorque).ret = s.ret := rfl
@[simp] theorem State.workOutTorque_mbp : (s.workOutTorque).mbp = s.mbp := rfl
@[simp] theorem State.workOutTorque_sc : (s.workOutTorque).sc = s.sc := rfl
@[simp] theorem State.workOutTorque_pu : (s.workOutTorque).pu = s.pu := rfl
@[simp] theorem State.workOutTorque_zt : (s.workOutTorque).zt = s.zt := rfl
@[simp] theorem State.workOutTorque_slm : (s.workOutTorque).slm = s.slm := rfl
@[simp] theorem State.workOutTorque_gg : (s.workOutTorque).gg = s.gg := rfl
@[simp] theorem State.workOutTorque_nu : (s.workOutTorque).nu = s.nu := rfl
@[simp] theorem State.workOutTorque_link : (s.workOutTorque).link = s.link := rfl
@[simp] theorem State.workOutTorque_inbox : (s.workOutTorque).inbox = s.inbox := rfl
@[simp] theorem State.workOutTorque_choice : (s.workOutTorque).choice = s.choice := rfl
@[simp] theorem State.workOutTorque_ec :
    (s.workOutTorque).ec = { s.ec with torque := torqueLimit s.ret s.ec.state s.ec.oilLatch } := rfl

/-! ### ecoMove -/

@[simp] theorem State.ecoMove_pending (st : EconomyState) (a b c : Timer) : (s.ecoMove st a b c).pending = s.pending := rfl
@[simp] theorem State.ecoMove_phase (st : EconomyState) (a b c : Timer) : (s.ecoMove st a b c).phase = s.phase := rfl
@[simp] theorem State.ecoMove_now (st : EconomyState) (a b c : Timer) : (s.ecoMove st a b c).now = s.now := rfl
@[simp] theorem State.ecoMove_backupDropped (st : EconomyState) (a b c : Timer) : (s.ecoMove st a b c).backupDropped = s.backupDropped := rfl
@[simp] theorem State.ecoMove_lossUnreported (st : EconomyState) (a b c : Timer) : (s.ecoMove st a b c).lossUnreported = s.lossUnreported := rfl
@[simp] theorem State.ecoMove_pins (st : EconomyState) (a b c : Timer) : (s.ecoMove st a b c).pins = s.pins := rfl
@[simp] theorem State.ecoMove_ret (st : EconomyState) (a b c : Timer) : (s.ecoMove st a b c).ret = s.ret := rfl
@[simp] theorem State.ecoMove_mbp (st : EconomyState) (a b c : Timer) : (s.ecoMove st a b c).mbp = s.mbp := rfl
@[simp] theorem State.ecoMove_sc (st : EconomyState) (a b c : Timer) : (s.ecoMove st a b c).sc = s.sc := rfl
@[simp] theorem State.ecoMove_pu (st : EconomyState) (a b c : Timer) : (s.ecoMove st a b c).pu = s.pu := rfl
@[simp] theorem State.ecoMove_zt (st : EconomyState) (a b c : Timer) : (s.ecoMove st a b c).zt = s.zt := rfl
@[simp] theorem State.ecoMove_slm (st : EconomyState) (a b c : Timer) : (s.ecoMove st a b c).slm = s.slm := rfl
@[simp] theorem State.ecoMove_gg (st : EconomyState) (a b c : Timer) : (s.ecoMove st a b c).gg = s.gg := rfl
@[simp] theorem State.ecoMove_nu (st : EconomyState) (a b c : Timer) : (s.ecoMove st a b c).nu = s.nu := rfl
@[simp] theorem State.ecoMove_link (st : EconomyState) (a b c : Timer) : (s.ecoMove st a b c).link = s.link := rfl
@[simp] theorem State.ecoMove_choice (st : EconomyState) (a b c : Timer) : (s.ecoMove st a b c).choice = s.choice := rfl

/-! ### publish -/

@[simp] theorem State.publish_pending (p : Pose) : (s.publish p).pending = s.pending := rfl
@[simp] theorem State.publish_phase (p : Pose) : (s.publish p).phase = s.phase := rfl
@[simp] theorem State.publish_now (p : Pose) : (s.publish p).now = s.now := rfl
@[simp] theorem State.publish_backupDropped (p : Pose) : (s.publish p).backupDropped = s.backupDropped := rfl
@[simp] theorem State.publish_lossUnreported (p : Pose) : (s.publish p).lossUnreported = s.lossUnreported := rfl
@[simp] theorem State.publish_pins (p : Pose) : (s.publish p).pins = s.pins := rfl
@[simp] theorem State.publish_ret (p : Pose) : (s.publish p).ret = s.ret := rfl
@[simp] theorem State.publish_mbp (p : Pose) : (s.publish p).mbp = s.mbp := rfl
@[simp] theorem State.publish_sc (p : Pose) : (s.publish p).sc = s.sc := rfl
@[simp] theorem State.publish_zt (p : Pose) : (s.publish p).zt = s.zt := rfl
@[simp] theorem State.publish_ec (p : Pose) : (s.publish p).ec = s.ec := rfl
@[simp] theorem State.publish_nu (p : Pose) : (s.publish p).nu = s.nu := rfl
@[simp] theorem State.publish_vd (p : Pose) : (s.publish p).vd = s.vd := rfl
@[simp] theorem State.publish_link (p : Pose) : (s.publish p).link = s.link := rfl
@[simp] theorem State.publish_inbox (p : Pose) : (s.publish p).inbox = s.inbox := rfl
@[simp] theorem State.publish_choice (p : Pose) : (s.publish p).choice = s.choice := rfl

/-! ### slewStep -/

@[simp] theorem State.slewStep_pending (left : Bool) : (s.slewStep left).pending = s.pending := rfl
@[simp] theorem State.slewStep_phase (left : Bool) : (s.slewStep left).phase = s.phase := rfl
@[simp] theorem State.slewStep_now (left : Bool) : (s.slewStep left).now = s.now := rfl
@[simp] theorem State.slewStep_backupDropped (left : Bool) : (s.slewStep left).backupDropped = s.backupDropped := rfl
@[simp] theorem State.slewStep_lossUnreported (left : Bool) : (s.slewStep left).lossUnreported = s.lossUnreported := rfl
@[simp] theorem State.slewStep_pins (left : Bool) : (s.slewStep left).pins = s.pins := rfl
@[simp] theorem State.slewStep_ret (left : Bool) : (s.slewStep left).ret = s.ret := rfl
@[simp] theorem State.slewStep_mbp (left : Bool) : (s.slewStep left).mbp = s.mbp := rfl
@[simp] theorem State.slewStep_pu (left : Bool) : (s.slewStep left).pu = s.pu := rfl
@[simp] theorem State.slewStep_zt (left : Bool) : (s.slewStep left).zt = s.zt := rfl
@[simp] theorem State.slewStep_slm (left : Bool) : (s.slewStep left).slm = s.slm := rfl
@[simp] theorem State.slewStep_gg (left : Bool) : (s.slewStep left).gg = s.gg := rfl
@[simp] theorem State.slewStep_ec (left : Bool) : (s.slewStep left).ec = s.ec := rfl
@[simp] theorem State.slewStep_nu (left : Bool) : (s.slewStep left).nu = s.nu := rfl
@[simp] theorem State.slewStep_vd (left : Bool) : (s.slewStep left).vd = s.vd := rfl
@[simp] theorem State.slewStep_link (left : Bool) : (s.slewStep left).link = s.link := rfl
@[simp] theorem State.slewStep_choice (left : Bool) : (s.slewStep left).choice = s.choice := rfl

/-! ### indexMark -/

@[simp] theorem State.indexMark_pending : (s.indexMark).pending = s.pending := rfl
@[simp] theorem State.indexMark_phase : (s.indexMark).phase = s.phase := rfl
@[simp] theorem State.indexMark_now : (s.indexMark).now = s.now := rfl
@[simp] theorem State.indexMark_backupDropped : (s.indexMark).backupDropped = s.backupDropped := rfl
@[simp] theorem State.indexMark_lossUnreported : (s.indexMark).lossUnreported = s.lossUnreported := rfl
@[simp] theorem State.indexMark_pins : (s.indexMark).pins = s.pins := rfl
@[simp] theorem State.indexMark_ret : (s.indexMark).ret = s.ret := rfl
@[simp] theorem State.indexMark_mbp : (s.indexMark).mbp = s.mbp := rfl
@[simp] theorem State.indexMark_pu : (s.indexMark).pu = s.pu := rfl
@[simp] theorem State.indexMark_zt : (s.indexMark).zt = s.zt := rfl
@[simp] theorem State.indexMark_slm : (s.indexMark).slm = s.slm := rfl
@[simp] theorem State.indexMark_gg : (s.indexMark).gg = s.gg := rfl
@[simp] theorem State.indexMark_ec : (s.indexMark).ec = s.ec := rfl
@[simp] theorem State.indexMark_nu : (s.indexMark).nu = s.nu := rfl
@[simp] theorem State.indexMark_vd : (s.indexMark).vd = s.vd := rfl
@[simp] theorem State.indexMark_link : (s.indexMark).link = s.link := rfl
@[simp] theorem State.indexMark_choice : (s.indexMark).choice = s.choice := rfl

/-! ### enterBusOff -/

@[simp] theorem State.enterBusOff_pending : (s.enterBusOff).pending = s.pending := rfl
@[simp] theorem State.enterBusOff_phase : (s.enterBusOff).phase = s.phase := rfl
@[simp] theorem State.enterBusOff_now : (s.enterBusOff).now = s.now := rfl
@[simp] theorem State.enterBusOff_backupDropped : (s.enterBusOff).backupDropped = s.backupDropped := rfl
@[simp] theorem State.enterBusOff_lossUnreported : (s.enterBusOff).lossUnreported = s.lossUnreported := rfl
@[simp] theorem State.enterBusOff_pins : (s.enterBusOff).pins = s.pins := rfl
@[simp] theorem State.enterBusOff_ret : (s.enterBusOff).ret = s.ret := rfl
@[simp] theorem State.enterBusOff_sc : (s.enterBusOff).sc = s.sc := rfl
@[simp] theorem State.enterBusOff_pu : (s.enterBusOff).pu = s.pu := rfl
@[simp] theorem State.enterBusOff_zt : (s.enterBusOff).zt = s.zt := rfl
@[simp] theorem State.enterBusOff_slm : (s.enterBusOff).slm = s.slm := rfl
@[simp] theorem State.enterBusOff_gg : (s.enterBusOff).gg = s.gg := rfl
@[simp] theorem State.enterBusOff_ec : (s.enterBusOff).ec = s.ec := rfl
@[simp] theorem State.enterBusOff_nu : (s.enterBusOff).nu = s.nu := rfl
@[simp] theorem State.enterBusOff_vd : (s.enterBusOff).vd = s.vd := rfl
@[simp] theorem State.enterBusOff_link : (s.enterBusOff).link = s.link := rfl
@[simp] theorem State.enterBusOff_choice : (s.enterBusOff).choice = s.choice := rfl

/-! ### demandDisabled -/

@[simp] theorem State.demandDisabled_pending : (s.demandDisabled).pending = s.pending := rfl
@[simp] theorem State.demandDisabled_phase : (s.demandDisabled).phase = s.phase := rfl
@[simp] theorem State.demandDisabled_now : (s.demandDisabled).now = s.now := rfl
@[simp] theorem State.demandDisabled_backupDropped : (s.demandDisabled).backupDropped = s.backupDropped := rfl
@[simp] theorem State.demandDisabled_lossUnreported : (s.demandDisabled).lossUnreported = s.lossUnreported := rfl
@[simp] theorem State.demandDisabled_pins : (s.demandDisabled).pins = s.pins := rfl
@[simp] theorem State.demandDisabled_ret : (s.demandDisabled).ret = s.ret := rfl
@[simp] theorem State.demandDisabled_sc : (s.demandDisabled).sc = s.sc := rfl
@[simp] theorem State.demandDisabled_pu : (s.demandDisabled).pu = s.pu := rfl
@[simp] theorem State.demandDisabled_zt : (s.demandDisabled).zt = s.zt := rfl
@[simp] theorem State.demandDisabled_slm : (s.demandDisabled).slm = s.slm := rfl
@[simp] theorem State.demandDisabled_gg : (s.demandDisabled).gg = s.gg := rfl
@[simp] theorem State.demandDisabled_ec : (s.demandDisabled).ec = s.ec := rfl
@[simp] theorem State.demandDisabled_nu : (s.demandDisabled).nu = s.nu := rfl
@[simp] theorem State.demandDisabled_vd : (s.demandDisabled).vd = s.vd := rfl
@[simp] theorem State.demandDisabled_link : (s.demandDisabled).link = s.link := rfl
@[simp] theorem State.demandDisabled_choice : (s.demandDisabled).choice = s.choice := rfl

/-! ### demandStarted -/

@[simp] theorem State.demandStarted_pending : (s.demandStarted).pending = s.pending := rfl
@[simp] theorem State.demandStarted_phase : (s.demandStarted).phase = s.phase := rfl
@[simp] theorem State.demandStarted_now : (s.demandStarted).now = s.now := rfl
@[simp] theorem State.demandStarted_backupDropped : (s.demandStarted).backupDropped = s.backupDropped := rfl
@[simp] theorem State.demandStarted_lossUnreported : (s.demandStarted).lossUnreported = s.lossUnreported := rfl
@[simp] theorem State.demandStarted_pins : (s.demandStarted).pins = s.pins := rfl
@[simp] theorem State.demandStarted_ret : (s.demandStarted).ret = s.ret := rfl
@[simp] theorem State.demandStarted_sc : (s.demandStarted).sc = s.sc := rfl
@[simp] theorem State.demandStarted_pu : (s.demandStarted).pu = s.pu := rfl
@[simp] theorem State.demandStarted_zt : (s.demandStarted).zt = s.zt := rfl
@[simp] theorem State.demandStarted_slm : (s.demandStarted).slm = s.slm := rfl
@[simp] theorem State.demandStarted_gg : (s.demandStarted).gg = s.gg := rfl
@[simp] theorem State.demandStarted_ec : (s.demandStarted).ec = s.ec := rfl
@[simp] theorem State.demandStarted_nu : (s.demandStarted).nu = s.nu := rfl
@[simp] theorem State.demandStarted_vd : (s.demandStarted).vd = s.vd := rfl
@[simp] theorem State.demandStarted_link : (s.demandStarted).link = s.link := rfl
@[simp] theorem State.demandStarted_inbox : (s.demandStarted).inbox = s.inbox := rfl
@[simp] theorem State.demandStarted_choice : (s.demandStarted).choice = s.choice := rfl

/-! ### startEdit -/

@[simp] theorem State.startEdit_pending : (s.startEdit).pending = s.pending := rfl
@[simp] theorem State.startEdit_phase : (s.startEdit).phase = s.phase := rfl
@[simp] theorem State.startEdit_now : (s.startEdit).now = s.now := rfl
@[simp] theorem State.startEdit_backupDropped : (s.startEdit).backupDropped = s.backupDropped := rfl
@[simp] theorem State.startEdit_lossUnreported : (s.startEdit).lossUnreported = s.lossUnreported := rfl
@[simp] theorem State.startEdit_pins : (s.startEdit).pins = s.pins := rfl
@[simp] theorem State.startEdit_ret : (s.startEdit).ret = s.ret := rfl
@[simp] theorem State.startEdit_mbp : (s.startEdit).mbp = s.mbp := rfl
@[simp] theorem State.startEdit_sc : (s.startEdit).sc = s.sc := rfl
@[simp] theorem State.startEdit_pu : (s.startEdit).pu = s.pu := rfl
@[simp] theorem State.startEdit_slm : (s.startEdit).slm = s.slm := rfl
@[simp] theorem State.startEdit_gg : (s.startEdit).gg = s.gg := rfl
@[simp] theorem State.startEdit_ec : (s.startEdit).ec = s.ec := rfl
@[simp] theorem State.startEdit_nu : (s.startEdit).nu = s.nu := rfl
@[simp] theorem State.startEdit_vd : (s.startEdit).vd = s.vd := rfl
@[simp] theorem State.startEdit_link : (s.startEdit).link = s.link := rfl
@[simp] theorem State.startEdit_inbox : (s.startEdit).inbox = s.inbox := rfl
@[simp] theorem State.startEdit_choice : (s.startEdit).choice = s.choice := rfl
@[simp] theorem State.startEdit_zt :
    (s.startEdit).zt = { s.zt with edit := some (s.ret.settings.editTimeout * 1000) } := rfl

/-! ### setZone -/

@[simp] theorem State.setZone_pending (i : Nat) (z : Option Zone) : (s.setZone i z).pending = s.pending := rfl
@[simp] theorem State.setZone_phase (i : Nat) (z : Option Zone) : (s.setZone i z).phase = s.phase := rfl
@[simp] theorem State.setZone_now (i : Nat) (z : Option Zone) : (s.setZone i z).now = s.now := rfl
@[simp] theorem State.setZone_backupDropped (i : Nat) (z : Option Zone) : (s.setZone i z).backupDropped = s.backupDropped := rfl
@[simp] theorem State.setZone_lossUnreported (i : Nat) (z : Option Zone) : (s.setZone i z).lossUnreported = s.lossUnreported := rfl
@[simp] theorem State.setZone_pins (i : Nat) (z : Option Zone) : (s.setZone i z).pins = s.pins := rfl
@[simp] theorem State.setZone_mbp (i : Nat) (z : Option Zone) : (s.setZone i z).mbp = s.mbp := rfl
@[simp] theorem State.setZone_sc (i : Nat) (z : Option Zone) : (s.setZone i z).sc = s.sc := rfl
@[simp] theorem State.setZone_pu (i : Nat) (z : Option Zone) : (s.setZone i z).pu = s.pu := rfl
@[simp] theorem State.setZone_zt (i : Nat) (z : Option Zone) : (s.setZone i z).zt = s.zt := rfl
@[simp] theorem State.setZone_slm (i : Nat) (z : Option Zone) : (s.setZone i z).slm = s.slm := rfl
@[simp] theorem State.setZone_gg (i : Nat) (z : Option Zone) : (s.setZone i z).gg = s.gg := rfl
@[simp] theorem State.setZone_ec (i : Nat) (z : Option Zone) : (s.setZone i z).ec = s.ec := rfl
@[simp] theorem State.setZone_nu (i : Nat) (z : Option Zone) : (s.setZone i z).nu = s.nu := rfl
@[simp] theorem State.setZone_vd (i : Nat) (z : Option Zone) : (s.setZone i z).vd = s.vd := rfl
@[simp] theorem State.setZone_link (i : Nat) (z : Option Zone) : (s.setZone i z).link = s.link := rfl
@[simp] theorem State.setZone_inbox (i : Nat) (z : Option Zone) : (s.setZone i z).inbox = s.inbox := rfl
@[simp] theorem State.setZone_choice (i : Nat) (z : Option Zone) : (s.setZone i z).choice = s.choice := rfl
@[simp] theorem State.setZone_ret (i : Nat) (z : Option Zone) :
    (s.setZone i z).ret = { s.ret with zones := s.ret.zones.set i z } := rfl

/-! ### setSector -/

@[simp] theorem State.setSector_pending (i : Nat) (x : Sector) : (s.setSector i x).pending = s.pending := rfl
@[simp] theorem State.setSector_phase (i : Nat) (x : Sector) : (s.setSector i x).phase = s.phase := rfl
@[simp] theorem State.setSector_now (i : Nat) (x : Sector) : (s.setSector i x).now = s.now := rfl
@[simp] theorem State.setSector_backupDropped (i : Nat) (x : Sector) : (s.setSector i x).backupDropped = s.backupDropped := rfl
@[simp] theorem State.setSector_lossUnreported (i : Nat) (x : Sector) : (s.setSector i x).lossUnreported = s.lossUnreported := rfl
@[simp] theorem State.setSector_pins (i : Nat) (x : Sector) : (s.setSector i x).pins = s.pins := rfl
@[simp] theorem State.setSector_mbp (i : Nat) (x : Sector) : (s.setSector i x).mbp = s.mbp := rfl
@[simp] theorem State.setSector_sc (i : Nat) (x : Sector) : (s.setSector i x).sc = s.sc := rfl
@[simp] theorem State.setSector_pu (i : Nat) (x : Sector) : (s.setSector i x).pu = s.pu := rfl
@[simp] theorem State.setSector_zt (i : Nat) (x : Sector) : (s.setSector i x).zt = s.zt := rfl
@[simp] theorem State.setSector_slm (i : Nat) (x : Sector) : (s.setSector i x).slm = s.slm := rfl
@[simp] theorem State.setSector_gg (i : Nat) (x : Sector) : (s.setSector i x).gg = s.gg := rfl
@[simp] theorem State.setSector_ec (i : Nat) (x : Sector) : (s.setSector i x).ec = s.ec := rfl
@[simp] theorem State.setSector_nu (i : Nat) (x : Sector) : (s.setSector i x).nu = s.nu := rfl
@[simp] theorem State.setSector_vd (i : Nat) (x : Sector) : (s.setSector i x).vd = s.vd := rfl
@[simp] theorem State.setSector_link (i : Nat) (x : Sector) : (s.setSector i x).link = s.link := rfl
@[simp] theorem State.setSector_inbox (i : Nat) (x : Sector) : (s.setSector i x).inbox = s.inbox := rfl
@[simp] theorem State.setSector_choice (i : Nat) (x : Sector) : (s.setSector i x).choice = s.choice := rfl
@[simp] theorem State.setSector_ret (i : Nat) (x : Sector) :
    (s.setSector i x).ret = { s.ret with sectors := s.ret.sectors.set i x } := rfl

/-! ### closeTable -/

@[simp] theorem State.closeTable_pending (rs : List Report) : (s.closeTable rs).pending = s.pending := rfl
@[simp] theorem State.closeTable_phase (rs : List Report) : (s.closeTable rs).phase = s.phase := rfl
@[simp] theorem State.closeTable_now (rs : List Report) : (s.closeTable rs).now = s.now := rfl
@[simp] theorem State.closeTable_backupDropped (rs : List Report) : (s.closeTable rs).backupDropped = s.backupDropped := rfl
@[simp] theorem State.closeTable_lossUnreported (rs : List Report) : (s.closeTable rs).lossUnreported = s.lossUnreported := rfl
@[simp] theorem State.closeTable_pins (rs : List Report) : (s.closeTable rs).pins = s.pins := rfl
@[simp] theorem State.closeTable_ret (rs : List Report) : (s.closeTable rs).ret = s.ret := rfl
@[simp] theorem State.closeTable_mbp (rs : List Report) : (s.closeTable rs).mbp = s.mbp := rfl
@[simp] theorem State.closeTable_sc (rs : List Report) : (s.closeTable rs).sc = s.sc := rfl
@[simp] theorem State.closeTable_pu (rs : List Report) : (s.closeTable rs).pu = s.pu := rfl
@[simp] theorem State.closeTable_gg (rs : List Report) : (s.closeTable rs).gg = s.gg := rfl
@[simp] theorem State.closeTable_ec (rs : List Report) : (s.closeTable rs).ec = s.ec := rfl
@[simp] theorem State.closeTable_nu (rs : List Report) : (s.closeTable rs).nu = s.nu := rfl
@[simp] theorem State.closeTable_link (rs : List Report) : (s.closeTable rs).link = s.link := rfl
@[simp] theorem State.closeTable_choice (rs : List Report) : (s.closeTable rs).choice = s.choice := rfl

/-! ### writeSurface -/

@[simp] theorem State.writeSurface_pending (i : Nat) (e : Option Surface) : (s.writeSurface i e).pending = s.pending := rfl
@[simp] theorem State.writeSurface_phase (i : Nat) (e : Option Surface) : (s.writeSurface i e).phase = s.phase := rfl
@[simp] theorem State.writeSurface_now (i : Nat) (e : Option Surface) : (s.writeSurface i e).now = s.now := rfl
@[simp] theorem State.writeSurface_backupDropped (i : Nat) (e : Option Surface) : (s.writeSurface i e).backupDropped = s.backupDropped := rfl
@[simp] theorem State.writeSurface_lossUnreported (i : Nat) (e : Option Surface) : (s.writeSurface i e).lossUnreported = s.lossUnreported := rfl
@[simp] theorem State.writeSurface_pins (i : Nat) (e : Option Surface) : (s.writeSurface i e).pins = s.pins := rfl
@[simp] theorem State.writeSurface_mbp (i : Nat) (e : Option Surface) : (s.writeSurface i e).mbp = s.mbp := rfl
@[simp] theorem State.writeSurface_sc (i : Nat) (e : Option Surface) : (s.writeSurface i e).sc = s.sc := rfl
@[simp] theorem State.writeSurface_pu (i : Nat) (e : Option Surface) : (s.writeSurface i e).pu = s.pu := rfl
@[simp] theorem State.writeSurface_zt (i : Nat) (e : Option Surface) : (s.writeSurface i e).zt = s.zt := rfl
@[simp] theorem State.writeSurface_slm (i : Nat) (e : Option Surface) : (s.writeSurface i e).slm = s.slm := rfl
@[simp] theorem State.writeSurface_ec (i : Nat) (e : Option Surface) : (s.writeSurface i e).ec = s.ec := rfl
@[simp] theorem State.writeSurface_nu (i : Nat) (e : Option Surface) : (s.writeSurface i e).nu = s.nu := rfl
@[simp] theorem State.writeSurface_link (i : Nat) (e : Option Surface) : (s.writeSurface i e).link = s.link := rfl
@[simp] theorem State.writeSurface_choice (i : Nat) (e : Option Surface) : (s.writeSurface i e).choice = s.choice := rfl

/-! ### setSelection -/

@[simp] theorem State.setSelection_pending (sel : Option Nat) : (s.setSelection sel).pending = s.pending := rfl
@[simp] theorem State.setSelection_phase (sel : Option Nat) : (s.setSelection sel).phase = s.phase := rfl
@[simp] theorem State.setSelection_now (sel : Option Nat) : (s.setSelection sel).now = s.now := rfl
@[simp] theorem State.setSelection_backupDropped (sel : Option Nat) : (s.setSelection sel).backupDropped = s.backupDropped := rfl
@[simp] theorem State.setSelection_lossUnreported (sel : Option Nat) : (s.setSelection sel).lossUnreported = s.lossUnreported := rfl
@[simp] theorem State.setSelection_pins (sel : Option Nat) : (s.setSelection sel).pins = s.pins := rfl
@[simp] theorem State.setSelection_mbp (sel : Option Nat) : (s.setSelection sel).mbp = s.mbp := rfl
@[simp] theorem State.setSelection_sc (sel : Option Nat) : (s.setSelection sel).sc = s.sc := rfl
@[simp] theorem State.setSelection_pu (sel : Option Nat) : (s.setSelection sel).pu = s.pu := rfl
@[simp] theorem State.setSelection_zt (sel : Option Nat) : (s.setSelection sel).zt = s.zt := rfl
@[simp] theorem State.setSelection_slm (sel : Option Nat) : (s.setSelection sel).slm = s.slm := rfl
@[simp] theorem State.setSelection_ec (sel : Option Nat) : (s.setSelection sel).ec = s.ec := rfl
@[simp] theorem State.setSelection_nu (sel : Option Nat) : (s.setSelection sel).nu = s.nu := rfl
@[simp] theorem State.setSelection_link (sel : Option Nat) : (s.setSelection sel).link = s.link := rfl
@[simp] theorem State.setSelection_choice (sel : Option Nat) : (s.setSelection sel).choice = s.choice := rfl

/-! ### scWritten -/

@[simp] theorem State.scWritten_pending (newCpr : Bool) : (s.scWritten newCpr).pending = s.pending := rfl
@[simp] theorem State.scWritten_phase (newCpr : Bool) : (s.scWritten newCpr).phase = s.phase := rfl
@[simp] theorem State.scWritten_now (newCpr : Bool) : (s.scWritten newCpr).now = s.now := rfl
@[simp] theorem State.scWritten_backupDropped (newCpr : Bool) : (s.scWritten newCpr).backupDropped = s.backupDropped := rfl
@[simp] theorem State.scWritten_lossUnreported (newCpr : Bool) : (s.scWritten newCpr).lossUnreported = s.lossUnreported := rfl
@[simp] theorem State.scWritten_pins (newCpr : Bool) : (s.scWritten newCpr).pins = s.pins := rfl
@[simp] theorem State.scWritten_ret (newCpr : Bool) : (s.scWritten newCpr).ret = s.ret := rfl
@[simp] theorem State.scWritten_mbp (newCpr : Bool) : (s.scWritten newCpr).mbp = s.mbp := rfl
@[simp] theorem State.scWritten_pu (newCpr : Bool) : (s.scWritten newCpr).pu = s.pu := rfl
@[simp] theorem State.scWritten_zt (newCpr : Bool) : (s.scWritten newCpr).zt = s.zt := rfl
@[simp] theorem State.scWritten_slm (newCpr : Bool) : (s.scWritten newCpr).slm = s.slm := rfl
@[simp] theorem State.scWritten_gg (newCpr : Bool) : (s.scWritten newCpr).gg = s.gg := rfl
@[simp] theorem State.scWritten_ec (newCpr : Bool) : (s.scWritten newCpr).ec = s.ec := rfl
@[simp] theorem State.scWritten_nu (newCpr : Bool) : (s.scWritten newCpr).nu = s.nu := rfl
@[simp] theorem State.scWritten_vd (newCpr : Bool) : (s.scWritten newCpr).vd = s.vd := rfl
@[simp] theorem State.scWritten_link (newCpr : Bool) : (s.scWritten newCpr).link = s.link := rfl
@[simp] theorem State.scWritten_choice (newCpr : Bool) : (s.scWritten newCpr).choice = s.choice := rfl

/-! ### judgeSupply -/

@[simp] theorem State.judgeSupply_pending : (s.judgeSupply).pending = s.pending := rfl
@[simp] theorem State.judgeSupply_phase : (s.judgeSupply).phase = s.phase := rfl
@[simp] theorem State.judgeSupply_now : (s.judgeSupply).now = s.now := rfl
@[simp] theorem State.judgeSupply_backupDropped : (s.judgeSupply).backupDropped = s.backupDropped := rfl
@[simp] theorem State.judgeSupply_lossUnreported : (s.judgeSupply).lossUnreported = s.lossUnreported := rfl
@[simp] theorem State.judgeSupply_pins : (s.judgeSupply).pins = s.pins := rfl
@[simp] theorem State.judgeSupply_ret : (s.judgeSupply).ret = s.ret := rfl
@[simp] theorem State.judgeSupply_mbp : (s.judgeSupply).mbp = s.mbp := rfl
@[simp] theorem State.judgeSupply_sc : (s.judgeSupply).sc = s.sc := rfl
@[simp] theorem State.judgeSupply_pu : (s.judgeSupply).pu = s.pu := rfl
@[simp] theorem State.judgeSupply_zt : (s.judgeSupply).zt = s.zt := rfl
@[simp] theorem State.judgeSupply_slm : (s.judgeSupply).slm = s.slm := rfl
@[simp] theorem State.judgeSupply_gg : (s.judgeSupply).gg = s.gg := rfl
@[simp] theorem State.judgeSupply_ec : (s.judgeSupply).ec = s.ec := rfl
@[simp] theorem State.judgeSupply_nu : (s.judgeSupply).nu = s.nu := rfl
@[simp] theorem State.judgeSupply_link : (s.judgeSupply).link = s.link := rfl
@[simp] theorem State.judgeSupply_inbox : (s.judgeSupply).inbox = s.inbox := rfl
@[simp] theorem State.judgeSupply_choice : (s.judgeSupply).choice = s.choice := rfl

/-! ### setNu -/

@[simp] theorem State.setNu_pending (nu : Nu) : (s.setNu nu).pending = s.pending := rfl
@[simp] theorem State.setNu_phase (nu : Nu) : (s.setNu nu).phase = s.phase := rfl
@[simp] theorem State.setNu_now (nu : Nu) : (s.setNu nu).now = s.now := rfl
@[simp] theorem State.setNu_backupDropped (nu : Nu) : (s.setNu nu).backupDropped = s.backupDropped := rfl
@[simp] theorem State.setNu_lossUnreported (nu : Nu) : (s.setNu nu).lossUnreported = s.lossUnreported := rfl
@[simp] theorem State.setNu_pins (nu : Nu) : (s.setNu nu).pins = s.pins := rfl
@[simp] theorem State.setNu_ret (nu : Nu) : (s.setNu nu).ret = s.ret := rfl
@[simp] theorem State.setNu_mbp (nu : Nu) : (s.setNu nu).mbp = s.mbp := rfl
@[simp] theorem State.setNu_sc (nu : Nu) : (s.setNu nu).sc = s.sc := rfl
@[simp] theorem State.setNu_pu (nu : Nu) : (s.setNu nu).pu = s.pu := rfl
@[simp] theorem State.setNu_zt (nu : Nu) : (s.setNu nu).zt = s.zt := rfl
@[simp] theorem State.setNu_slm (nu : Nu) : (s.setNu nu).slm = s.slm := rfl
@[simp] theorem State.setNu_gg (nu : Nu) : (s.setNu nu).gg = s.gg := rfl
@[simp] theorem State.setNu_ec (nu : Nu) : (s.setNu nu).ec = s.ec := rfl
@[simp] theorem State.setNu_vd (nu : Nu) : (s.setNu nu).vd = s.vd := rfl
@[simp] theorem State.setNu_link (nu : Nu) : (s.setNu nu).link = s.link := rfl
@[simp] theorem State.setNu_inbox (nu : Nu) : (s.setNu nu).inbox = s.inbox := rfl
@[simp] theorem State.setNu_choice (nu : Nu) : (s.setNu nu).choice = s.choice := rfl
@[simp] theorem State.setNu_nu (nu : Nu) :
    (s.setNu nu).nu = nu := rfl

/-! ### supplyFalls -/

@[simp] theorem State.supplyFalls_pending : (s.supplyFalls).pending = s.pending := rfl
@[simp] theorem State.supplyFalls_phase : (s.supplyFalls).phase = s.phase := rfl
@[simp] theorem State.supplyFalls_now : (s.supplyFalls).now = s.now := rfl
@[simp] theorem State.supplyFalls_backupDropped : (s.supplyFalls).backupDropped = s.backupDropped := rfl
@[simp] theorem State.supplyFalls_lossUnreported : (s.supplyFalls).lossUnreported = s.lossUnreported := rfl
@[simp] theorem State.supplyFalls_pins : (s.supplyFalls).pins = s.pins := rfl
@[simp] theorem State.supplyFalls_ret : (s.supplyFalls).ret = s.ret := rfl
@[simp] theorem State.supplyFalls_mbp : (s.supplyFalls).mbp = s.mbp := rfl
@[simp] theorem State.supplyFalls_sc : (s.supplyFalls).sc = s.sc := rfl
@[simp] theorem State.supplyFalls_pu : (s.supplyFalls).pu = s.pu := rfl
@[simp] theorem State.supplyFalls_zt : (s.supplyFalls).zt = s.zt := rfl
@[simp] theorem State.supplyFalls_slm : (s.supplyFalls).slm = s.slm := rfl
@[simp] theorem State.supplyFalls_gg : (s.supplyFalls).gg = s.gg := rfl
@[simp] theorem State.supplyFalls_ec : (s.supplyFalls).ec = s.ec := rfl
@[simp] theorem State.supplyFalls_nu : (s.supplyFalls).nu = s.nu := rfl
@[simp] theorem State.supplyFalls_link : (s.supplyFalls).link = s.link := rfl
@[simp] theorem State.supplyFalls_choice : (s.supplyFalls).choice = s.choice := rfl

/-! ### supplyRises -/

@[simp] theorem State.supplyRises_pending : (s.supplyRises).pending = s.pending := rfl
@[simp] theorem State.supplyRises_phase : (s.supplyRises).phase = s.phase := rfl
@[simp] theorem State.supplyRises_now : (s.supplyRises).now = s.now := rfl
@[simp] theorem State.supplyRises_backupDropped : (s.supplyRises).backupDropped = s.backupDropped := rfl
@[simp] theorem State.supplyRises_lossUnreported : (s.supplyRises).lossUnreported = s.lossUnreported := rfl
@[simp] theorem State.supplyRises_pins : (s.supplyRises).pins = s.pins := rfl
@[simp] theorem State.supplyRises_ret : (s.supplyRises).ret = s.ret := rfl
@[simp] theorem State.supplyRises_mbp : (s.supplyRises).mbp = s.mbp := rfl
@[simp] theorem State.supplyRises_sc : (s.supplyRises).sc = s.sc := rfl
@[simp] theorem State.supplyRises_pu : (s.supplyRises).pu = s.pu := rfl
@[simp] theorem State.supplyRises_zt : (s.supplyRises).zt = s.zt := rfl
@[simp] theorem State.supplyRises_slm : (s.supplyRises).slm = s.slm := rfl
@[simp] theorem State.supplyRises_gg : (s.supplyRises).gg = s.gg := rfl
@[simp] theorem State.supplyRises_ec : (s.supplyRises).ec = s.ec := rfl
@[simp] theorem State.supplyRises_nu : (s.supplyRises).nu = s.nu := rfl
@[simp] theorem State.supplyRises_link : (s.supplyRises).link = s.link := rfl
@[simp] theorem State.supplyRises_choice : (s.supplyRises).choice = s.choice := rfl

/-! ### start -/

@[simp] theorem State.start_pending (extra : List Report) : (s.start extra).pending = s.pending := rfl
@[simp] theorem State.start_now (extra : List Report) : (s.start extra).now = s.now := rfl
@[simp] theorem State.start_backupDropped (extra : List Report) : (s.start extra).backupDropped = s.backupDropped := rfl
@[simp] theorem State.start_lossUnreported (extra : List Report) : (s.start extra).lossUnreported = false := rfl
@[simp] theorem State.start_pins (extra : List Report) : (s.start extra).pins = s.pins := rfl
@[simp] theorem State.start_ret (extra : List Report) :
    (s.start extra).ret = s.ret.evaluated := rfl
@[simp] theorem State.start_phase (extra : List Report) :
    (s.start extra).phase = .running := rfl
@[simp] theorem State.start_sc (extra : List Report) :
    (s.start extra).sc = startSc := rfl
@[simp] theorem State.start_link (extra : List Report) :
    (s.start extra).link = startLink := rfl
@[simp] theorem State.start_inbox (extra : List Report) :
    (s.start extra).inbox = [] := rfl

/-! ### judgeRetained -/

@[simp] theorem State.judgeRetained_pending : (s.judgeRetained).pending = s.pending := rfl
@[simp] theorem State.judgeRetained_phase : (s.judgeRetained).phase = s.phase := rfl
@[simp] theorem State.judgeRetained_now : (s.judgeRetained).now = s.now := rfl
@[simp] theorem State.judgeRetained_pins : (s.judgeRetained).pins = s.pins := rfl
@[simp] theorem State.judgeRetained_mbp : (s.judgeRetained).mbp = s.mbp := rfl
@[simp] theorem State.judgeRetained_sc : (s.judgeRetained).sc = s.sc := rfl
@[simp] theorem State.judgeRetained_pu : (s.judgeRetained).pu = s.pu := rfl
@[simp] theorem State.judgeRetained_zt : (s.judgeRetained).zt = s.zt := rfl
@[simp] theorem State.judgeRetained_slm : (s.judgeRetained).slm = s.slm := rfl
@[simp] theorem State.judgeRetained_gg : (s.judgeRetained).gg = s.gg := rfl
@[simp] theorem State.judgeRetained_ec : (s.judgeRetained).ec = s.ec := rfl
@[simp] theorem State.judgeRetained_nu : (s.judgeRetained).nu = s.nu := rfl
@[simp] theorem State.judgeRetained_vd : (s.judgeRetained).vd = s.vd := rfl
@[simp] theorem State.judgeRetained_link : (s.judgeRetained).link = s.link := rfl
@[simp] theorem State.judgeRetained_inbox : (s.judgeRetained).inbox = s.inbox := rfl
@[simp] theorem State.judgeRetained_choice : (s.judgeRetained).choice = s.choice := rfl

@[simp] theorem State.setResetLow_pending (low : Bool) : (s.setResetLow low).pending = s.pending := rfl
@[simp] theorem State.setResetLow_phase (low : Bool) : (s.setResetLow low).phase = s.phase := rfl
@[simp] theorem State.setResetLow_now (low : Bool) : (s.setResetLow low).now = s.now := rfl
@[simp] theorem State.setResetLow_backupDropped (low : Bool) : (s.setResetLow low).backupDropped = s.backupDropped := rfl
@[simp] theorem State.setResetLow_lossUnreported (low : Bool) : (s.setResetLow low).lossUnreported = s.lossUnreported := rfl
@[simp] theorem State.setResetLow_ret (low : Bool) : (s.setResetLow low).ret = s.ret := rfl
@[simp] theorem State.setResetLow_mbp (low : Bool) : (s.setResetLow low).mbp = s.mbp := rfl
@[simp] theorem State.setResetLow_sc (low : Bool) : (s.setResetLow low).sc = s.sc := rfl
@[simp] theorem State.setResetLow_pu (low : Bool) : (s.setResetLow low).pu = s.pu := rfl
@[simp] theorem State.setResetLow_zt (low : Bool) : (s.setResetLow low).zt = s.zt := rfl
@[simp] theorem State.setResetLow_slm (low : Bool) : (s.setResetLow low).slm = s.slm := rfl
@[simp] theorem State.setResetLow_gg (low : Bool) : (s.setResetLow low).gg = s.gg := rfl
@[simp] theorem State.setResetLow_ec (low : Bool) : (s.setResetLow low).ec = s.ec := rfl
@[simp] theorem State.setResetLow_nu (low : Bool) : (s.setResetLow low).nu = s.nu := rfl
@[simp] theorem State.setResetLow_vd (low : Bool) : (s.setResetLow low).vd = s.vd := rfl
@[simp] theorem State.setResetLow_link (low : Bool) : (s.setResetLow low).link = s.link := rfl
@[simp] theorem State.setResetLow_inbox (low : Bool) : (s.setResetLow low).inbox = s.inbox := rfl
@[simp] theorem State.setResetLow_choice (low : Bool) : (s.setResetLow low).choice = s.choice := rfl
@[simp] theorem State.setResetLow_pins (low : Bool) : (s.setResetLow low).pins = { s.pins with resetLow := low } := rfl

end Sys2Proof.Machine
end

