-- ==== Sys2Proof/Laws/Ops.lean ====
section
/-! SUPPORT. What each shared operation can do, said once: how an effect becomes a step, what a timer's expiry does, how reports
are taken, and the frame of every operation that several commands share, as an equation on the whole state. -/

namespace Sys2Proof.Machine

variable (s : State)

/-! ### Steps -/

theorem State.commit_running {s : State} (h : s.phase = .running) (f : State → State) :
    s.commit f = .next (f s).deliver := by simp [State.commit, h]

theorem State.commit_stopped {s : State} (h : s.phase ≠ .running) (f : State → State) : s.commit f = .next s := by
  unfold State.commit
  split <;> simp_all

theorem State.commitPins_running {s : State} (h : s.phase = .running) (p : Pins) (f : State → State) :
    s.commitPins p f = .next (f { s with pins := p }).deliver := by simp [State.commitPins, h]

theorem State.commitPins_stopped {s : State} (h : s.phase ≠ .running) (p : Pins) (f : State → State) :
    s.commitPins p f = .next { s with pins := p } := by
  unfold State.commitPins
  split <;> simp_all

theorem State.expire_stopped (f : State → State) : s.expire none f = s := rfl

theorem State.expire_running (left : Nat) (f : State → State) : s.expire (some left) f = f (s.elapse left) := rfl

/-- Every command answers a next state: no rule stops the part. -/
theorem exec_next (c : Instr) (s : State) : ∃ t, exec c s = .next t := by
  cases c <;> exact ⟨_, rfl⟩

/-- Every step answers a next state. -/
theorem step_next (s : State) : ∃ t, step s = .next t := by
  unfold step
  split
  · exact ⟨_, rfl⟩
  · exact exec_next _ _

/-! ### Reports -/

/-- A part with no report on its way delivers nothing. -/
theorem State.deliver_none {s : State} (h : s.inbox = []) : s.deliver = s := by
  cases s; cases h; rfl

/-- One report is taken as it is, and the free value is left whole. -/
theorem State.deliver_one {s : State} {r : Report} (h : s.inbox = [r]) :
    s.deliver = { s with nu := s.nu.take (s.ret.settings.lampStretch * 1000) r, inbox := [] } := by
  have hd : Nu.drain (s.ret.settings.lampStretch * 1000) 1 s.choice [r] s.nu =
      (s.nu.take (s.ret.settings.lampStretch * 1000) r, s.choice) := by
    simp [Nu.drain, firstDue, Report.conflicts, Nat.mod_one]
  simp [State.deliver, h, hd]

/-- What every report keeps, a delivery keeps, in whatever order the reports are taken. -/
theorem Nu.drain_keeps {P : Nu → Prop} {m : Nat} (hP : ∀ r nu, P nu → P (nu.take m r)) :
    ∀ (n choice : Nat) (inbox : List Report) (nu : Nu), P nu → P (Nu.drain m n choice inbox nu).1
  | 0, _, _, _, h => h
  | n + 1, choice, inbox, nu, h => by
    cases inbox with
    | nil => exact h
    | cons r rest => exact Nu.drain_keeps hP n _ _ _ (hP _ _ h)

/-- What every report keeps, `deliver` keeps. -/
theorem State.deliver_keeps {P : Nu → Prop} {s : State} (hP : ∀ r nu, P nu → P (nu.take (s.ret.settings.lampStretch * 1000) r))
    (h : P s.nu) : P s.deliver.nu := Nu.drain_keeps hP _ _ _ _ h

/-! ### Reads and responses -/

/-- A running part with no report on its way takes a read and changes nothing but the answer. -/
theorem State.commit_ask {s : State} (h : s.phase = .running) (h' : s.inbox = []) (q : ReadRequest) :
    s.commit (fun s => s.ask q) = .next (s.ask q) := by
  rw [State.commit_running h, State.deliver_none (by simpa using h')]

/-- Preparing a response moves the link and the change flag, and nothing else. -/
theorem State.prepare_frame :
    s.prepare = { s with link := s.prepare.link, nu := { s.nu with changed := s.prepare.nu.changed } } := by
  unfold State.prepare
  split <;> rfl

/-- A response is prepared for a request that waits with its answer. -/
theorem State.prepare_answered {s : State} {a : Answer} (h : s.link.state = .working) (h' : s.link.answer = some a) :
    s.prepare =
      { s with
        link := { s.link with state := .ready, request := none, answer := none, response := some (s.responseTo a) }
        nu := { s.nu with changed := changedAfter s.nu.changed a } } := by
  unfold State.prepare
  simp [h, h']

/-! ### Running time and the measured average -/

/-- The running time a tick brings goes to the partial quantum or waits beside it: none is lost. -/
theorem Ec.elapse_running (e : Ec) (dt : Nat) :
    (e.elapse true dt).partialMs + (e.elapse true dt).overMs = e.partialMs + e.overMs + dt := by
  simp only [Ec.elapse, accrued, if_true]
  omega

/-- The measured average is the mean to within the rounding of one mA. -/
theorem meanOf_near {l : List Nat} (h : l ≠ []) :
    l.sum < l.length * meanOf l + l.length ∧ l.length * meanOf l < l.sum + l.length := by
  have hl : 0 < l.length := List.length_pos_of_ne_nil h
  have hd := Nat.div_add_mod l.sum l.length
  have hm := Nat.mod_lt l.sum hl
  unfold meanOf
  dsimp only
  split
  · omega
  · split
    · rw [Nat.mul_add]; omega
    · omega

/-! ### Frames of the shared operations -/

theorem State.derateReport_frame (b : Bool) :
    s.derateReport b = { s with ec := { s.ec with torque := (s.derateReport b).ec.torque }, vd := (s.derateReport b).vd } := by
  cases b <;> rfl

theorem State.serviceEvent_frame (p : ServiceBasis → Bool) (f : Item → Item) :
    s.serviceEvent p f =
      { s with
        ret := { s.ret with items := (s.serviceEvent p f).ret.items }
        ec := { s.ec with torque := (s.serviceEvent p f).ec.torque }
        vd := (s.serviceEvent p f).vd
        inbox := (s.serviceEvent p f).inbox } := by
  unfold State.serviceEvent State.derateReport
  dsimp only
  split <;> rfl

theorem State.writeItem_frame (i : Nat) (it : Item) :
    s.writeItem i it =
      { s with
        ret := { s.ret with items := s.ret.items.set i (some it) }
        ec := { s.ec with torque := (s.writeItem i it).ec.torque }
        vd := (s.writeItem i it).vd
        inbox := s.inbox ++ itemReports i (stateOf (s.ret.item i)) (some it.state) } := by
  unfold State.writeItem State.derateReport
  split <;> rfl

theorem State.recompute_frame :
    s.recompute =
      { s with
        ret := { s.ret with items := s.recompute.ret.items }
        pu := { s.pu with pose := s.nextPose, detector := detectorNext s.ret.geometry s.pu.detector s.nextPose.z }
        zt := { s.zt with engaged := s.recompute.zt.engaged }
        slm := { held := s.nextPose, record := limitRecord s.ret s.zt.isOpen s.nextPose }
        gg := s.recompute.gg
        ec := { s.ec with torque := s.recompute.ec.torque }
        vd := s.recompute.vd
        inbox := s.recompute.inbox } := by
  unfold State.recompute
  dsimp only
  split
  · unfold State.serviceDigCycle
    rw [State.serviceEvent_frame]
    rfl
  · rfl

theorem State.puSource_frame (i : Nat) (st : SourceState) :
    s.puSource i st =
      { s with
        ret := { s.ret with items := (s.puSource i st).ret.items }
        pu := (s.puSource i st).pu
        zt := { s.zt with engaged := (s.puSource i st).zt.engaged }
        slm := (s.puSource i st).slm
        gg := (s.puSource i st).gg
        ec := { s.ec with torque := (s.puSource i st).ec.torque }
        vd := (s.puSource i st).vd
        inbox := (s.puSource i st).inbox } := by
  unfold State.puSource
  rw [State.recompute_frame]

theorem State.puGate_frame (phi : Nat) (r : Bool) (w : Int) :
    s.puGate phi r w =
      { s with
        ret := { s.ret with items := (s.puGate phi r w).ret.items }
        pu := (s.puGate phi r w).pu
        zt := { s.zt with engaged := (s.puGate phi r w).zt.engaged }
        slm := (s.puGate phi r w).slm
        gg := (s.puGate phi r w).gg
        ec := { s.ec with torque := (s.puGate phi r w).ec.torque }
        vd := (s.puGate phi r w).vd
        inbox := (s.puGate phi r w).inbox } := by
  unfold State.puGate
  rw [State.recompute_frame]

theorem State.enterWorking_frame :
    s.enterWorking = { s with ec := s.enterWorking.ec, vd := s.enterWorking.vd, inbox := s.enterWorking.inbox } := by
  unfold State.enterWorking
  split <;> rfl

theorem State.judgeEngine_frame :
    s.judgeEngine = { s with ec := s.judgeEngine.ec, vd := s.judgeEngine.vd, inbox := s.judgeEngine.inbox } := by
  unfold State.judgeEngine
  split
  · split
    · exact s.enterWorking_frame
    · rfl
  · split <;> rfl
  · rfl

theorem State.activityBegins_frame :
    s.activityBegins = { s with ec := s.activityBegins.ec, vd := s.activityBegins.vd, inbox := s.activityBegins.inbox } := by
  unfold State.activityBegins
  split <;> rfl

theorem State.activityEnds_frame :
    s.activityEnds = { s with ec := s.activityEnds.ec, vd := s.activityEnds.vd, inbox := s.activityEnds.inbox } := by
  unfold State.activityEnds
  split
  · split <;> rfl
  · rfl

theorem State.judgeActivity_frame :
    s.judgeActivity = { s with ec := s.judgeActivity.ec, vd := s.judgeActivity.vd, inbox := s.judgeActivity.inbox } := by
  unfold State.judgeActivity
  dsimp only
  split
  · rw [State.activityBegins_frame]
  · rw [State.activityEnds_frame]
  · rfl

theorem State.judgeOil_frame :
    s.judgeOil = { s with ec := s.judgeOil.ec, vd := s.judgeOil.vd, inbox := s.judgeOil.inbox } := by
  unfold State.judgeOil
  dsimp only
  split <;> rfl

theorem State.ecGate_frame (w : Int) :
    s.ecGate w = { s with ec := (s.ecGate w).ec, vd := (s.ecGate w).vd, inbox := (s.ecGate w).inbox } := by
  unfold State.ecGate
  rw [State.judgeActivity_frame]

theorem State.fuelState_frame (st : SourceState) : s.fuelState st = { s with ec := (s.fuelState st).ec } := by
  unfold State.fuelState
  split <;> rfl

theorem State.pumpSample_frame (v : Int) : s.pumpSample v = { s with ec := (s.pumpSample v).ec } := by
  unfold State.pumpSample
  split <;> rfl

theorem State.fuelSample_frame (v : Int) :
    s.fuelSample v =
      { s with
        ret := { s.ret with shift := { s.ret.shift with fuel := (s.fuelSample v).ret.shift.fuel } }
        ec := (s.fuelSample v).ec } := rfl

/-- A report of slot 3..7 touches the Economy Controller, the fuel figure, the Valve Drive and the reports alone. -/
theorem State.ecSource_frame (i : Nat) (x : SourceSlot) (accepted : Bool) :
    s.ecSource i x accepted =
      { s with
        ret := { s.ret with shift := { s.ret.shift with fuel := (s.ecSource i x accepted).ret.shift.fuel } }
        ec := (s.ecSource i x accepted).ec
        vd := (s.ecSource i x accepted).vd
        inbox := (s.ecSource i x accepted).inbox } := by
  unfold State.ecSource
  dsimp only
  split
  · split
    · rw [State.pumpSample_frame]
    · rfl
  · rw [State.judgeEngine_frame]
  · split
    · rfl
    · rw [State.fuelState_frame]
  · rw [State.judgeOil_frame]
  · rw [State.judgeActivity_frame]
  · rfl

/-- A report to a slot's consumer leaves the Source Table, the settings, the tables of zones and surfaces, the meters, the
Slew Counter, the link, the pins and the time as they were. -/
theorem State.tellConsumer_frame (i : Nat) (changed accepted : Bool) :
    s.tellConsumer i changed accepted =
      { s with
        ret := { s.ret with
          items := (s.tellConsumer i changed accepted).ret.items
          shift := { s.ret.shift with fuel := (s.tellConsumer i changed accepted).ret.shift.fuel } }
        pu := (s.tellConsumer i changed accepted).pu
        zt := { s.zt with engaged := (s.tellConsumer i changed accepted).zt.engaged }
        slm := (s.tellConsumer i changed accepted).slm
        gg := (s.tellConsumer i changed accepted).gg
        ec := (s.tellConsumer i changed accepted).ec
        vd := (s.tellConsumer i changed accepted).vd
        inbox := (s.tellConsumer i changed accepted).inbox } := by
  unfold State.tellConsumer
  split
  · split
    · rw [State.puSource_frame]
    · rfl
  · split
    · rw [State.ecSource_frame]
    · rfl

theorem State.busRejoined_frame :
    s.busRejoined = { s with mbp := s.busRejoined.mbp, inbox := s.busRejoined.inbox } := by
  unfold State.busRejoined State.attemptEnds
  repeat' split
  all_goals rfl

theorem State.demandWritten_frame (before : Bool) :
    s.demandWritten before = { s with mbp := (s.demandWritten before).mbp, inbox := (s.demandWritten before).inbox } := by
  unfold State.demandWritten
  repeat' split
  all_goals rfl

theorem State.handBack_frame (ch : Nat) :
    s.handBack ch = { s with gg := { s.gg with floor := (s.handBack ch).gg.floor }, vd := (s.handBack ch).vd } := by
  unfold State.handBack
  repeat' split
  all_goals rfl

/-- A setting's effect leaves the retained contents as the write left them. -/
theorem State.settingChanged_ret (before : Settings) (n : Nat) : (s.settingChanged before n).ret = s.ret := by
  unfold State.settingChanged
  split
  case h_1 => rw [State.busRejoined_frame]
  case h_2 => rw [State.demandWritten_frame]
  case h_3 => rw [State.demandWritten_frame]
  case h_15 => rw [State.judgeEngine_frame]
  case h_18 => rw [State.judgeActivity_frame]
  case h_20 => rw [State.judgeOil_frame]
  case h_16 => unfold State.autoIdleWritten; repeat' split
               all_goals rfl
  case h_17 => unfold State.shutdownWritten; repeat' split
               all_goals rfl
  all_goals rfl

/-- A write puts its settings in place, and nothing else of the retained contents. -/
theorem State.applySetting_ret (n : Nat) (x : Settings) : (s.applySetting n x).ret = { s.ret with settings := x } := by
  unfold State.applySetting
  split
  · next h => subst h; rfl
  · rw [State.settingChanged_ret]; rfl

end Sys2Proof.Machine
end

