-- ==== Sys2Proof/Laws/Notices.lean ====
section
/-! SUPPORT. The Notice List: what `relist` can answer, said once. -/

namespace Sys2Proof.Machine

theorem mem_raisedNumbers {ns : List Notice} {n : Nat} :
    n ∈ raisedNumbers ns ↔ n < noticeCount ∧ isRaised ns n = true := by
  simp [raisedNumbers]

/-- What is listed after a change is listed before it, or waits no longer; all of it is RAISED. -/
theorem relist_raised {ns : List Notice} {l : List Nat} {n : Nat} (h : n ∈ relist ns l) : isRaised ns n = true := by
  simp only [relist, List.mem_append, List.mem_filter] at h
  rcases h with h | h
  · exact h.2
  · exact (mem_raisedNumbers.mp (List.mem_filter.mp (List.mem_of_mem_take h)).1).2

theorem relist_length {ns : List Notice} {l : List Nat} (h : l.length ≤ Config.listPlaces) :
    (relist ns l).length ≤ Config.listPlaces := by
  have hk : (l.filter (isRaised ns)).length ≤ l.length := List.length_filter_le _ _
  simp only [relist, List.length_append, List.length_take]
  omega

theorem relist_nodup {ns : List Notice} {l : List Nat} (h : l.Nodup) : (relist ns l).Nodup := by
  have hr : (raisedNumbers ns).Nodup := List.nodup_range.filter _
  refine List.nodup_append.mpr ⟨h.filter _, ((hr.filter _).sublist (List.take_sublist _ _)), ?_⟩
  intro a ha b hb hab
  have hb' := (List.mem_filter.mp (List.mem_of_mem_take hb)).2
  subst hab
  simp [ha] at hb'

/-- An entry that is still RAISED keeps its place among those that are. -/
theorem relist_kept {ns : List Notice} {l : List Nat} {n : Nat} (hn : n ∈ l) (hr : isRaised ns n = true) :
    n ∈ relist ns l := by
  simp only [relist, List.mem_append, List.mem_filter]
  exact .inl ⟨hn, hr⟩

/-- While the list has a free place no RAISED notice waits (R151). -/
theorem relist_complete {ns : List Notice} {l : List Nat} (h : (relist ns l).length < Config.listPlaces) {n : Nat}
    (hn : n < noticeCount) (hr : isRaised ns n = true) : n ∈ relist ns l := by
  by_cases hk : n ∈ l.filter (isRaised ns)
  · exact relist_kept (List.mem_filter.mp hk).1 hr
  · have hw : n ∈ (raisedNumbers ns).filter (fun n => !(l.filter (isRaised ns)).contains n) := by
      simp only [List.mem_filter, mem_raisedNumbers]
      exact ⟨⟨hn, hr⟩, by simpa only [Bool.not_eq_true', List.contains_eq_mem, decide_eq_false_iff_not] using hk⟩
    simp only [relist, List.length_append, List.length_take] at h
    simp only [relist, List.mem_append]
    refine .inr ?_
    rw [List.take_of_length_le (by omega)]
    exact hw

/-- The Notice Set keeps its length through a report. -/
theorem applyReport_length (r : Report) (ns : List Notice) : (applyReport r ns).length = ns.length := by
  cases r <;> simp [applyReport]

/-- Any change of the Notice Set, whatever it is, leaves the list in order (R150, R151). -/
theorem Nu.settle_sound {m : Nat} {nu : Nu} {ns : List Notice} (h : nu.Sound) (hl : ns.length = noticeCount) :
    (nu.settle m ns).Sound :=
  ⟨hl, relist_length h.2.1, relist_nodup h.2.2.1, fun _ hn => relist_raised hn, fun hlt _ hn hr => relist_complete hlt hn hr⟩

end Sys2Proof.Machine
end

