-- ==== Sys2Proof/Tests/Slice0.lean ====
section
/-! SUPPORT. The writer's own tests: the smoke test of well-formedness, worked examples of the spec, single steps, and for
every statement with hypotheses a concrete state and operands that meet them, for each of its clauses. -/

open Sys2Proof Sys2Proof.Machine

namespace Sys2Proof.Tests

set_option Elab.async false

/-! ### Helpers -/

/-- The state that a command leaves. -/
def after (c : Instr) (s : State) : State :=
  match exec c s with
  | .next t => t
  | _ => s

/-- Whether a step answers a next state. -/
def goesOn (s : State) : Bool :=
  match step s with
  | .next _ => true
  | _ => false

/-- The request code and the result that wait for the response of an action. -/
def result (s : State) : Option (Nat × ResultCode) :=
  match s.link.answer with
  | some (.done code r _) => some (code, r)
  | _ => none

def keyed : State := { State.reset with pins := { State.reset.pins with keyAsserted := true } }
def withRet (r : Retained) : State := { State.reset with ret := r }
def withSettings (x : Settings) : State := withRet { defaultRetained with settings := x }
def withEc (st : EconomyState) (auto shut wait : Timer) : State :=
  { State.reset with ec := { State.reset.ec with state := st, autoIdle := auto, shutdown := shut, wait := wait } }
def withMbp (m : Mbp) : State := { State.reset with mbp := m }
def withLink (l : Link) : State := { State.reset with link := l }
def withChan (ch : Nat) (c : Channel) : State :=
  { State.reset with vd := { State.reset.vd with chans := State.reset.vd.chans.set ch c, supplyLow := false } }
def openTable : State := { State.reset with zt := { startZt with isOpen := true, edit := some 10000 } }
def shut : State := { State.reset with phase := .unpowered }

/-- ENGINE_SPEED FRESH at 1800 rpm: metering runs. -/
def metered : State :=
  { State.reset with ec := { State.reset.ec with copies := State.reset.ec.copies.set 1 ⟨.fresh, some 1800⟩ } }

def zoneA : Zone := { active := true, start := 16383, width := 2, condition := .always, limit := none, cls := .slow, tag := 9 }
def surfaceA (kind : SurfaceKind) (h0 : Int) : Surface :=
  { active := true, kind := kind, h0 := h0, sx := 0, sy := 0, start := 0, width := 16384, tag := 0 }
def itemA : Item :=
  { state := .counting, basis := .digCycles, interval := 4000000000, lead := 4000000000, grace := 0, stamp := none,
    cycles := some 0, timesDone := 65535, derate := some 40, tag := 65534 }
def dimsA : Dims := { fr := 0, fz := -2000, lb := 20000, ls := 500, lk := 5000, ob := -8192, os := 8191, ok := 0 }
def sourceA : SourceRecord :=
  { identifier := some 536870911, offset := 6, order := .highFirst, lo := 0, hi := 65535, timeout := 20 }
def poseA (phi : Nat) (x y z : Int) : Pose :=
  { seq := 65535, quality := .complete, phi := some phi, omega := 0, r := some 5, z := some z, x := some x, y := some y }
def poseAt (phi : Nat) : Pose := { startPose with phi := some phi }

/-- The sector map ON and every sector firm, of one class. -/
def firmAll (c : Cls) : Retained :=
  { defaultRetained with
    settings := { defaultSettings with sectorMap := true }, sectors := List.replicate 32 ⟨c, true⟩ }

/-- Every point STOP but those of the given firm sectors. -/
def stopBut (free : List Nat) : Retained :=
  { firmAll .stop with sectors := (List.range 32).map (fun i => ⟨if free.contains i then .free else .stop, true⟩) }

def slotFed (i : Nat) : State :=
  { State.reset with
    ret := { defaultRetained with sources := defaultSources.set i sourceA }
    mbp := { State.reset.mbp with
      slots := State.reset.mbp.slots.set i { state := .never, lastGood := none, lastTime := none, timer := some 20 } } }

/-- Slot 3 enabled and STALE. -/
def slotLost : State :=
  { slotFed 3 with mbp := { State.reset.mbp with
    slots := State.reset.mbp.slots.set 3 { state := .stale, lastGood := none, lastTime := none, timer := none } } }

def frameA (dlc : Nat) : CanFrame :=
  { extended := true, remote := false, own := false, ident := 536870911, dlc := dlc, data := List.replicate dlc 1 }

/-! ### Well-formed and ill-formed commands (01 R1, 10 R164, R168, 11 R176) -/

theorem test_wf_frame_accepted : (Instr.frameArrival (frameA 8)).wellFormed = true := by decide
theorem test_wf_long_identifier_refused :
    (Instr.frameArrival { frameA 8 with ident := 2 ^ 29 }).wellFormed = false := by decide
theorem test_wf_short_identifier_refused :
    (Instr.frameArrival { frameA 8 with extended := false, ident := 2 ^ 11 }).wellFormed = false := by decide
theorem test_wf_length_code_refused : (Instr.frameArrival { frameA 8 with dlc := 16 }).wellFormed = false := by decide
theorem test_wf_missing_data_refused : (Instr.frameArrival { frameA 8 with dlc := 7 }).wellFormed = false := by decide
theorem test_wf_remote_data_refused : (Instr.frameArrival { frameA 8 with remote := true }).wellFormed = false := by decide
theorem test_wf_long_payload_refused : (Instr.putEntry 1 0 (List.replicate 61 0)).wellFormed = false := by decide
theorem test_wf_interval_accepted : (Instr.rampIntervalExpiry 0 (List.replicate 10 65535)).wellFormed = true := by decide
theorem test_wf_interval_length_refused : (Instr.rampIntervalExpiry 0 (List.replicate 9 0)).wellFormed = false := by decide
theorem test_wf_interval_current_refused :
    (Instr.rampIntervalExpiry 0 (65536 :: List.replicate 9 0)).wellFormed = false := by decide
theorem test_wf_sensed_refused : (Instr.overCurrent 0 65536).wellFormed = false := by decide
theorem test_wf_voltage_refused : (Instr.supplyVoltageChange 361).wellFormed = false := by decide

/-! ### Reset -/

/-- R184: a part powered for the first time with no backup supply finds the latch set; State.reset is what that leaves. -/
theorem test_reset_is_first_power_on :
    after .powerOn { State.reset with phase := .unpowered, backupDropped := true } = State.reset := by decide +kernel

/-! ### Worked examples of the spec -/

/-- R22. -/
theorem test_slew_angle : slewAngle 36000 9000 = 4096 ∧ slewAngle 36000 9001 = 4096 := by decide
/-- R28. -/
theorem test_slew_speed : slewSpeed 36000 20 = 910 ∧ slewSpeed 36000 (-20) = -910 ∧ slewSpeed 1000 21 = 32767 := by decide
/-- R23. -/
theorem test_index_difference : indexDifference 36000 10 35990 = -20 ∧ indexDifference 36000 10 30 = 20 := by decide
/-- R39: its table, and the angle with a negative offset. -/
theorem test_link_angle :
    [0, 1, 2, 8192, 65533, 65534, 65535].map (fun w => linkAngle w 0) = [0, 0, 1, 2048, 16383, 0, 0] ∧
      linkAngle 400 (-300) = 16184 := by decide
/-- R40: a long boom held level is 1 mm short, and its other term is 0. -/
theorem test_link_terms : radialTerm 20000 0 = 19999 ∧ radialTerm 16384 0 = 16384 ∧ verticalTerm 20000 0 = 0 := by
  decide +kernel
/-- 03, 3.7: the reference pose; 3.9: the tip behind the slew axis. -/
def referenceDims : Dims := { fr := 3000, fz := 2500, lb := 10000, ls := 5000, lk := 2000, ob := 0, os := 0, ok := 0 }
theorem test_reference_pose :
    tipRadius referenceDims 8192 57344 49152 = 13606 ∧ tipHeight referenceDims 8192 57344 49152 = 4036 ∧
      rndDiv (13606 * cosA 2048) 32768 = 9621 ∧ rndDiv (13606 * sinA 2048) 32768 = 9621 ∧
      tipRadius referenceDims 16384 32768 49152 = -2000 ∧ tipHeight referenceDims 16384 32768 49152 = 10500 := by
  decide +kernel
/-- R111: a pilot report after a write of the still threshold is judged against the threshold that the latest gate read. -/
theorem test_activity_keeps_gate_threshold :
    activityNow { defaultSettings with still := 500 }
      { State.reset.ec with copies := List.replicate 5 ⟨.fresh, some 0⟩, omega := 46, gateStill := 45 } = true ∧
    activityNow defaultSettings
      { State.reset.ec with copies := List.replicate 5 ⟨.fresh, some 50⟩, omega := -45, gateStill := 45 } = false := by
  decide
/-- R78. -/
theorem test_stopping_arc :
    stoppingArc 2000 182 910 = 389 ∧ stoppingArc 2000 182 300 = 205 ∧ stoppingArc 100 182 32767 = 8192 := by decide
/-- R119. -/
theorem test_torque_target :
    torqueTarget 1000 70 = 500 ∧ torqueTarget 1000 60 = 667 ∧ torqueTarget 1000 95 = 83 ∧ torqueTarget 1000 40 = 1000 := by
  decide
/-- R130: a lead equal to the interval is DUE at once; a lead of 0 goes to OVERDUE at the interval; a grace of 0 to CRITICAL. -/
theorem test_item_state :
    itemStateOf 5 5 1 0 = .due ∧ itemStateOf 5 0 1 4 = .counting ∧ itemStateOf 5 0 1 5 = .overdue ∧
      itemStateOf 5 1 0 5 = .critical := by decide
/-- R163: from rest the default start current, then 50 mA an expiry; R162: a target below the start current. -/
theorem test_ramp :
    rampNext (defaultConfig 0) 0 1000 = 200 ∧ rampNext (defaultConfig 0) 200 1000 = 250 ∧
      rampNext (defaultConfig 0) 240 0 = 0 ∧ effectiveOf 200 83 = 200 := by decide
/-- 01, Demand frame layout: 1650 rpm low byte first, 80 %, IDLE, counter 15. -/
theorem test_demand_bytes :
    (DemandMessage.mk 5 1650 80 true false 15).bytes = [0x72, 0x06, 0x50, 0x01, 0x0F, 0, 0, 0] := by decide

/-! ### Single steps -/

/-- R20: SLEW_A leading from (low, low) is LEFT; both lines changing together give no step. -/
theorem test_step_moves :
    (after (.slewStep true false) State.reset).sc.count = 1 ∧ (after (.slewStep false true) State.reset).sc.count = 35999 := by
  decide +kernel
theorem test_step_skips : (after (.slewStep true true) State.reset).sc.count = 0 := by decide +kernel
/-- R153: the head of the list after a first power-on is acknowledged. -/
theorem test_ack_head : (after .ackHead State.reset).nu.list = [57, 36, 1, 0] := by decide +kernel
/-- R184: an acknowledged RETAINED_LOST, whose condition is absent, is CLEAR. -/
theorem test_ack_retained_lost : noticeAt (after (.ackNotice 0) State.reset).nu.notices 0 = ⟨.clear, false⟩ := by
  decide +kernel
/-- R171: without the key DRIVE_TEST is LOCKED, with it the current is clamped to Imax. -/
theorem test_drive_test_locked :
    result (after (.driveTest 0 2000 100) State.reset) = some (21, .locked) := by decide +kernel
theorem test_drive_test_clamped :
    (after (.driveTest 0 2000 100) keyed).vd.test = some ⟨0, 1000⟩ ∧
      result (after (.driveTest 0 2000 100) keyed) = some (21, .okClamped) := by decide +kernel
/-- R61: a zone is refused while the table is CLOSED. -/
theorem test_zone_refused_closed :
    result (after (.putEntry 1 0 zoneA.payload) State.reset) = some (2, .notOpen) := by decide +kernel
/-- R182: a tag of 65535, the absent mark of its field, is out of range, and 65534 is not. -/
theorem test_tag_mark_refused :
    result (after (.putEntry 1 0 { zoneA with tag := 65535 }.payload) openTable) = some (2, .badValue) ∧
    result (after (.putEntry 3 0 { surfaceA .grade 0 with tag := 65535 }.payload) State.reset) = some (2, .badValue) ∧
    result (after (.putEntry 4 0 { itemA with tag := 65535 }.payload) keyed) = some (2, .badValue) := by decide +kernel
theorem test_tag_top_accepted :
    result (after (.putEntry 1 0 { zoneA with tag := 65534 }.payload) openTable) = some (2, .ok) ∧
    result (after (.putEntry 4 0 itemA.payload) keyed) = some (2, .ok) := by decide +kernel
/-- R185: RESET_N keeps its level without VDD; a power-on with it low does not run, and a loss found shows at the release. -/
theorem test_power_on_held :
    (after .powerOn { after .resetNAsserted shut with backupDropped := true }).phase = .held ∧
    (after .reset { State.reset with phase := .held, lossUnreported := true }).nu.list.contains 0 = true ∧
    (after .reset { State.reset with phase := .held }).nu.list.contains 0 = false := by decide +kernel
/-- R136: an item is refused without the key. -/
theorem test_item_locked :
    result (after (.putEntry 4 0 itemA.payload) State.reset) = some (2, .locked) := by decide +kernel
/-- R178, Table 11-5: the response to OPEN_ZONES, with the change flag. -/
theorem test_open_zones_response :
    (after .responseReady (after .openZones (after (.transactionEnd [5, 0, 0, 0]) (after .transactionStart State.reset)))).link.response
      = some [5, 0, 2, 0] := by decide +kernel
/-- R179: an unknown request code is BAD_REQUEST, answered by the link. -/
theorem test_bad_request :
    result (after (.transactionEnd [25, 0, 0, 0]) (after .transactionStart State.reset)) = some (25, .badRequest) := by
  decide +kernel
/-- A link that has taken a request and waits for its owner. -/
def working : State := withLink { startLink with state := .working }
/-- R181: CPR 36000 as READ_ENTRY on SETTINGS returns it. -/
theorem test_read_setting :
    (after .responseReady (after (.readEntry 9 3) working)).link.response = some [1, 0, 2, 4, 0, 0, 0x8C, 0xA0] := by
  decide +kernel
/-- R43, R178: a pose published between READ_POSE and its response is in the response, with seq 1. -/
theorem test_read_pose_at_preparation :
    ((after .responseReady (after .gateTimerExpiry (after .readPose working))).link.response.map (fun r => (r.drop 4).take 2))
      = some [0, 1] := by decide +kernel
/-- R155: READ_NOTICES shows the change flag from before the clear, and its preparation clears it. -/
theorem test_read_notices_clears :
    ((after .responseReady (after .readNotices working)).link.response.map (fun r => r.getD 2 0)) = some 2 ∧
      (after .responseReady (after .readNotices working)).nu.changed = false := by decide +kernel
/-- R120: a gate taken first, at the end of a quantum, costs it no running time: the quantum completes at 36,000 ms. -/
theorem test_quantum_exact :
    let s : State := { metered with ec := { metered.ec with partialMs := 35990 } }
    (after .quantumCompletion (after .gateTimerExpiry s)).now = 10 ∧
      (after .quantumCompletion (after .gateTimerExpiry s)).ret.engineMeter = 1 := by decide +kernel
/-- R164, R174: the mean of the last 20 ms, and of the 10 ms since a reset. -/
theorem test_measured_mean :
    let s := after (.rampIntervalExpiry 0 (List.replicate 10 100)) State.reset
    (s.vd.chan 0).measured = 100 ∧ ((after (.rampIntervalExpiry 0 (List.replicate 10 300)) s).vd.chan 0).measured = 200 ∧
      ((after (.rampIntervalExpiry 0 (List.replicate 10 500)) (after (.rampIntervalExpiry 0 (List.replicate 10 300)) s)).vd.chan
        0).measured = 400 := by decide +kernel
/-- A referenced counter at count 9000, with a write waiting. -/
def counting (waiting : List Instr) : State :=
  { State.reset with sc := { startSc with count := 9000, referenced := true }, pending := waiting }
/-- R19: a write of CPR taken right after the gate's expiry shows in the content of the gate; a write of the CPR that stands
does not. -/
theorem test_gate_before_cpr_write :
    (after .gateTimerExpiry (counting [.putEntry 9 3 (toBeInt 4 1000)])).pu.pose.phi = none ∧
      (after .gateTimerExpiry (counting [.putEntry 9 3 (toBeInt 4 36000)])).pu.pose.phi = some 4096 := by decide +kernel

/-! ### Witnesses: the hypotheses of the statements are met -/

theorem test_witness_EmptyQueueTick :
    let full : State := { metered with ec := { metered.ec with partialMs := 35999 } }
    (State.reset.pending = [] ∧ State.reset.phase = .running ∧ State.reset.metering = false) ∧
    (shut.pending = [] ∧ shut.phase ≠ .running) ∧
    (metered.phase = .running ∧ metered.metering = true ∧ metered.ec.partialMs < 35999) ∧
    (full.pending = [] ∧ full.phase = .running ∧ full.metering = true ∧ 35999 ≤ full.ec.partialMs) := by
  decide +kernel

/-- One state meets the hypotheses of O4 and of every invariant, O9 to O21, and its step goes on. -/
theorem test_witness_invariants :
    State.reset.inbox = [] ∧ goesOn State.reset = true ∧ State.reset.phase = .running ∧ State.reset.pins.resetLow = false ∧ State.reset.zt.isOpen = false ∧
    State.reset.pins.keyAsserted = false ∧ State.reset.pending = [] := by
  decide +kernel
theorem test_witness_NoticeListKept : State.reset.nu.Sound := by decide +kernel
theorem test_witness_MetersKept : State.reset.ret.MetersSound := by decide +kernel
theorem test_witness_ItemStatesKept : State.reset.ret.ItemsSound ∧ (10 : Nat) ≤ 10 ∧ (0 : Nat) < 10 - 9 ∧ 10 - 9 ≤ 1 ∧ 10 ≤ 10 ∧
    10 < 10 + 1 ∧ 10 + 1 ≤ 11 := by decide +kernel
theorem test_witness_TorqueLimitKept : State.reset.TorqueSound := by decide +kernel
theorem test_witness_CurrentInRangeKept : State.reset.DriveSound := by decide +kernel
theorem test_witness_OwnerTargetsKept : State.reset.TargetsSound := by decide +kernel
theorem test_witness_PoseShapeKept : State.reset.PosesSound := by decide +kernel
theorem test_witness_SlotTimersKept : State.reset.SlotsSound := by decide +kernel
theorem test_witness_CountKept : State.reset.CountSound := by decide +kernel
theorem test_witness_TimersFollowStates : State.reset.TimersSound := by decide +kernel
theorem test_witness_DriveTestGuarded : (after (.driveTest 0 2000 100) keyed).TestSound ∧
    (after (.driveTest 0 2000 100) keyed).vd.test.isSome := by decide +kernel

theorem test_witness_ReportsReachNoticeUnit :
    ({ State.reset with inbox := [.condition 109 true] } : State).inbox = [.condition 109 true] := by decide +kernel

theorem test_witness_NoticeTransitions :
    State.reset.nu.notices.length = 110 ∧
    (∀ n ∈ [0, 2, 31, 45, 52, 54], (n = 0 ∨ (2 ≤ n ∧ n ≤ 31) ∨ (45 ≤ n ∧ n ≤ 52) ∨ n = 54) ∧ n < 110) ∧
    (∀ n ∈ [1, 32, 44, 53, 55, 109], ¬(n = 0 ∨ (2 ≤ n ∧ n ≤ 31) ∨ (45 ≤ n ∧ n ≤ 52) ∨ n = 54) ∧ n < 110) ∧
    (noticeAt State.reset.nu.notices 0).state = .raised ∧ (noticeAt State.reset.nu.notices 1).state = .raised ∧
    (31 : Nat) = 8 + 23 ∧ (81 : Nat) = 58 + 23 ∧ (109 : Nat) = 86 + 23 := by
  decide +kernel

/-- All 110 notices RAISED: eight are listed and the rest wait; and all but 0 of the list leave RAISED. -/
theorem test_witness_NoticeListChanges :
    State.reset.nu.Sound ∧ (List.replicate 110 (⟨.raised, true⟩ : Notice)).length = 110 ∧
    (State.reset.nu.settle 0 (List.replicate 110 ⟨.raised, true⟩)).list = [35, 57, 36, 1, 0, 2, 3, 4] ∧
    isRaised (List.replicate 110 (⟨.raised, true⟩ : Notice)) 109 = true := by
  decide +kernel

/-- Each lamp state; and the status lines, active and not, with both polarities. -/
theorem test_witness_LampFollowsNotices :
    (State.reset.nu.red.mode = .flashing ∧ isRaised State.reset.nu.notices 0 = true) ∧
    (startNu.red.mode ≠ .flashing ∧ startNu.red.mode = .off) ∧
    (∀ n, n ∈ [31, 32, 81] → isAcked ((List.replicate 110 clearNotice).set n ⟨.acked, true⟩) n = true) ∧
    (State.reset.lampRed = true ∧ shut.lampRed = false) ∧
    (withSettings { defaultSettings with statusA := .slewRestricted }).statusA = true ∧
    (withSettings { defaultSettings with statusA := .slewRestricted, statusALow := true }).statusA = false ∧
    (withSettings { defaultSettings with statusB := .anyService, statusBLow := true }).statusB = true := by
  decide +kernel

theorem test_witness_RndNearest : 0 < 2 ∧ 2 * ((1 : Int) - (2 : Nat) * rndDiv 1 2).natAbs = 2 := by decide

theorem test_witness_SineTableSymmetry : 0 ≤ 8192 ∧ 1 ≤ 16383 ∧ 16383 ≤ 16383 ∧ 16383 < 16384 := by decide

theorem test_witness_FieldsReadBack :
    0 < 256 ^ 0 ∧ 255 < 256 ^ (0 + 1) ∧ 4294967295 < 256 ^ 4 ∧ -(128 * (256 : Int) ^ 3) ≤ -2147483648 ∧ (2147483647 : Int) < 128 * 256 ^ 3 := by
  decide

/-- Frames that pass at the ends of their ranges, and one frame for each refusal. -/
theorem test_witness_RequestFramesSpellCommands :
    (1 ≤ (9 : Byte).toNat ∧ (9 : Byte).toNat ≤ 9 ∧ 60 ≤ 60 ∧ (8 : Byte) ≠ 9) ∧
    ((8, (List.replicate 20 (0 : Byte)).length) ∈
      [(1, 13), (2, 2), (3, 14), (4, 16), (5, 16), (6, 3), (7, 15), (8, 20), (9, 4)] ∧
      (List.replicate 20 (0 : Byte)).length + 40 ≤ 60) ∧ 56 ≤ 56 ∧
    (([1, 0, 0] : List Byte).getD 0 0 ≠ 0 ∧ ([1, 0, 0] : List Byte).length < 4) ∧ 60 < (61 : Byte).toNat ∧
    (([1, 1, 0, 0, 5] : List Byte).getD 0 0 ≠ 0 ∧ 4 + (([1, 1, 0, 0, 5] : List Byte).getD 3 0).toNat ≤ 4 ∧
      ([1, 1, 0, 0, 5] : List Byte).getD 4 0 ≠ 0) ∧
    24 < (25 : Byte).toNat ∧ ((4 : Byte).toNat ≤ 4 ∧ 9 < (10 : Byte).toNat) ∧
    ((9, 3) ∉ [(1, 13), (2, 2), (3, 14), (4, 16), (5, 16), (6, 3), (7, 15), (8, 20), ((9 : Nat), (4 : Nat))]) ∧
    (5 ≤ (24 : Byte).toNat ∧ (24 : Byte).toNat ≤ 24 ∧ (24 : Byte) ≠ 21 ∧ ([0] : List Byte) ≠ []) ∧
    ([0] : List Byte).length ≠ 4 := by
  decide

/-- A firm sector; a zone that applies; neither. -/
theorem test_witness_PointClassPrecedence :
    (16383 < 16384 ∧ (firmAll .stop).settings.sectorMap = true ∧ ((firmAll .stop).sectors.getD (16383 / 512) ⟨.free, false⟩).firm = true) ∧
    (defaultSettings.sectorMap = false ∧ zoneA.active = true ∧ ((16383 : Nat) - (zoneA.start : Int)) % 16384 < zoneA.width ∧
      ((0 : Nat) - (zoneA.start : Int)) % 16384 < zoneA.width ∧
      ¬((1 : Nat) - (zoneA.start : Int)) % 16384 < zoneA.width ∧ zoneA.condition = .always) := by
  decide +kernel

theorem test_witness_LookAheadDirections :
    2048 ≤ 2048 ∧ (∀ phi ∈ (poseAt 16383).phi, phi < 16384) ∧
    defaultSettings.zoneLimiting = true ∧ startPose.phi = none ∧ (poseAt 0).phi = some 0 ∧ (poseAt 0).phi.isSome ∧
    pointClass defaultRetained (poseAt 0) 0 ≠ .stop ∧
    ({ defaultSettings with zoneLimiting := false } : Settings).zoneLimiting = false := by
  decide +kernel

/-- A STOP background with a SLOW point on each side of straight ahead. -/
def gapsBeside : Retained :=
  { defaultRetained with
    settings := { defaultSettings with defaultClass := .stop }
    zones := [some { zoneA with start := 1, width := 1 }, some { zoneA with start := 16383, width := 1 }] }

/-- The way out nearer LEFT, nearer RIGHT and the same both ways. -/
theorem test_witness_EscapeFromStopRegion :
    (firmAll .stop).settings.zoneLimiting = true ∧ (poseAt 0).phi = some 0 ∧
    (pointClass (stopBut [1, 30]) (poseAt 0) 0 = .stop ∧ (limitRecord (stopBut [1, 30]) false (poseAt 0)).leftEscape = some 512 ∧
      (limitRecord (stopBut [1, 30]) false (poseAt 0)).rightEscape = some 513) ∧
    ((limitRecord (stopBut [2, 31]) false (poseAt 0)).leftEscape = some 1024 ∧
      (limitRecord (stopBut [2, 31]) false (poseAt 0)).rightEscape = some 1) ∧
    (pointClass gapsBeside (poseAt 0) 0 = .stop ∧ (limitRecord gapsBeside false (poseAt 0)).leftEscape = some 1 ∧
      (limitRecord gapsBeside false (poseAt 0)).rightEscape = some 1) := by
  decide +kernel

/-- A STOP background, with the given zones. -/
def stopPlain (zones : List (Option Zone)) : Retained :=
  { defaultRetained with settings := { defaultSettings with defaultClass := .stop }, zones := zones }

/-- A way out in one direction only, at the last point that the other search does not reach; and none at all. -/
theorem test_witness_EscapeFromStopRegion_one_way :
    leftEscapeOf (pointClass (stopPlain [some { zoneA with start := 8191, width := 1 }]) (poseAt 0)) 0 = some 8191 ∧
    rightEscapeOf (pointClass (stopPlain [some { zoneA with start := 8191, width := 1 }]) (poseAt 0)) 0 = none := by
  decide +kernel
theorem test_witness_EscapeFromStopRegion_no_way :
    leftEscapeOf (pointClass (stopPlain []) (poseAt 0)) 0 = none ∧
    rightEscapeOf (pointClass (stopPlain []) (poseAt 0)) 0 = none := by
  decide +kernel

/-- No lengths after reset; with an angle they are the margin, and a zone may be engaged. -/
theorem test_witness_LimitsEvaluated :
    (limitRecord State.reset.ret State.reset.zt.isOpen State.reset.slm.held).leftLength = none ∧
    (poseAt 0).phi = some 0 ∧ (limitRecord defaultRetained false (poseAt 0)).leftLength = some 182 ∧
    (limitRecord defaultRetained false (poseAt 0)).rightLength = some 182 ∧ 182 ≤ 8192 ∧ zoneHolds zoneA (poseAt 0) = true := by
  decide +kernel

/-- At the floor, at the edge of the band from inside and from outside, and no floor. -/
theorem test_witness_FloorDecidesLeast :
    let s : List (Option Surface) := [some (surfaceA .floor 0)]
    (poseA 16383 1 2 0).quality = .complete ∧
    (floorNext { defaultRetained with surfaces := s } (poseA 0 1 2 0) startFloor).state = .atFloor ∧
    (floorNext { defaultRetained with surfaces := s } (poseA 0 1 2 1) startFloor).state = .near ∧
    (floorNext { defaultRetained with surfaces := s } (poseA 0 1 2 499) startFloor).state = .near ∧
    (floorNext { defaultRetained with surfaces := s } (poseA 0 1 2 500) startFloor).state = .clear ∧
    (floorNext defaultRetained (poseA 0 1 2 500) startFloor).state = .none ∧
    (startPose.quality ≠ .complete ∧ startFloor.state = .none ∧
      ({ startFloor with state := .holding, held := some .none } : FloorRecord).state = .holding ∧
      floorUnavailable.state = .unavailable ∧ some (surfaceA .floor 0) ∈ s ∧ (surfaceA .floor 0).active = true) := by
  decide +kernel

theorem test_witness_GuidanceFirstFit :
    let r (w : Nat) : Retained :=
      { defaultRetained with surfaces := [some { surfaceA .grade 0 with width := w }], selection := some 0 }
    (defaultRetained.selection = none) ∧ ((r 1).selection = some 0 ∧ (r 1).surfaces.getD 0 none = some { surfaceA .grade 0 with width := 1 }) ∧
    startPose.quality ≠ .complete ∧ (poseA 1 0 0 31).quality = .complete ∧
    (guidanceOf (r 1) (poseA 1 0 0 31)).state = .outside ∧ (guidanceOf (r 16384) (poseA 1 0 0 31)).state = .above ∧
    (guidanceOf (r 16384) (poseA 1 0 0 30)).state = .onGrade ∧ (guidanceOf (r 16384) (poseA 1 0 0 (-31))).state = .below := by
  decide +kernel

theorem test_witness_TorqueIsLeastFigure :
    let r : Retained := { defaultRetained with items := [some { itemA with state := .critical }] }
    (some { itemA with state := .critical } ∈ r.items) ∧ torqueLimit r .working true = 40 ∧
    torqueLimit defaultRetained .working true = 70 ∧ torqueLimit defaultRetained .working false = 80 := by
  decide +kernel

theorem test_witness_PoseComputed :
    (defaultGeometry.dims = none) ∧ (({ dims := some dimsA, dig := 0, dump := 500 } : Geometry).dims = some dimsA) ∧
    ({ State.reset.pu with links := [.fresh, .fresh, .fresh] } : Pu).links = [.fresh, .fresh, .fresh] := by
  decide +kernel

/-- Each pair of the cycle, and a travel at its top. -/
theorem test_witness_StepMovesCount :
    State.reset.Ready ∧ State.reset.CountSound ∧ 3 < 4 ∧
    (State.reset.pins.slewA, State.reset.pins.slewB) =
      ([(false, false), (true, false), (true, true), (false, true)] : List (Bool × Bool)).getD 0 (false, false) ∧
    ({ State.reset with sc := { startSc with travel := 72000, count := 35999 } } : State).CountSound ∧
    ¬((72000 : Nat) < 2 * defaultSettings.cpr) := by
  decide +kernel

theorem test_witness_IndexMarkLoadsCount :
    State.reset.Ready ∧ State.reset.CountSound ∧ State.reset.pins.slewZ = false ∧ State.reset.sc.referenced = false ∧
    ({ State.reset with sc := { startSc with referenced := true, count := 50 } } : State).CountSound ∧
    ({ State.reset with sc := { startSc with referenced := true, count := 51 } } : State).CountSound ∧
    ((51 + 36000 - 0) % 36000 = 51 ∧ 2 * 51 ≤ 36000 ∧ defaultSettings.slipTol < 51 ∧ 50 ≤ defaultSettings.slipTol) := by
  decide +kernel

/-- The hypotheses of O36: with no write behind, with each write behind that changes CPR or the index position, and with one that
does not; and inputs of its clauses: activity that begins and ends, a lever at rest, items on both cycle bases. -/
theorem test_witness_GateClosesAndPublishes :
    let quiet (st : EconomyState) (was : Bool) : State :=
      { State.reset with ec := { State.reset.ec with state := st, active := was, copies := List.replicate 5 ⟨.fresh, some 50⟩ } }
    State.reset.Ready ∧ State.reset.CountSound ∧ State.reset.vd.chans.length = 4 ∧ State.reset.sc.gate = some 10 ∧
    (counting []).pending = [] ∧ (counting []).Ready ∧ (counting []).CountSound ∧
    (counting [.putEntry 9 3 (toBeInt 4 1000), .indexMark]).pending = [.putEntry 9 3 (toBeInt 4 1000), .indexMark] ∧
    (max 1000 (min 1000000 (1000 : Int)) ≠ defaultSettings.cpr ∧ max 1000 (min 1000000 (36000 : Int)) = defaultSettings.cpr) ∧
    (max 0 (min ((defaultSettings.cpr : Int) - 1) 2147483647) ≠ defaultSettings.indexPos) ∧
    (counting [.putEntry 9 3 (toBeInt 4 1000)]).writeBehind = true ∧
    (counting [.putEntry 9 4 (toBeInt 4 (-1))]).writeBehind = false ∧
    (counting [.retireEntry 9 3]).writeBehind = false ∧ (counting [.indexMark]).writeBehind = false ∧
    ({ withSettings { defaultSettings with indexPos := 1 } with
      pending := [.clearRetained], pins := { State.reset.pins with keyAsserted := true } } : State).writeBehind = true ∧
    ((quiet .settling false).Ready ∧ (quiet .idling false).ec.active = false ∧ (quiet .working true).ec.active = true ∧
      (quiet .working true).ec.copies.getD 4 ⟨.disabled, none⟩ = ⟨.fresh, some 50⟩ ∧
      (50 : Int) ≤ defaultSettings.pilotThreshold ∧ defaultSettings.autoIdleDelay ≠ 0) ∧
    ({ State.reset with ret := { defaultRetained with items := [some { itemA with basis := .slewReversals }] } } : State).ret.item 0
      = some { itemA with basis := .slewReversals } ∧
    (withRet { defaultRetained with items := [some itemA] }).ret.item 0 = some itemA ∧ itemA.basis = .digCycles := by
  decide +kernel

/-- A frame that reaches no slot, one that a slot accepts and one too short, on a slot of each kind that no other slot shares; a
STALE slot; and for each judgement of chapter 7 a value on either side of its threshold. -/
theorem test_witness_FrameSamplesSlots :
    (slotFed 0).Ready ∧ (slotFed 0).SlotsSound ∧ (slotFed 0).nu.notices.length = 110 ∧ (slotFed 0).ec.copies.length = 5 ∧
    (slotFed 0).pu.links.length = 3 ∧ ({ frameA 8 with remote := true } : CanFrame).remote = true ∧
    ((frameA 8).extended = true ∧ (frameA 8).remote = false ∧ (frameA 8).own = false) ∧
    (6 + 2 ≤ min (frameA 8).dlc 8 ∧ (0 : Int) ≤ 257 ∧ (257 : Int) ≤ 65535) ∧ ¬(6 + 2 ≤ min (frameA 7).dlc 8) ∧
    ((slotFed 0).source 1).identifier ≠ some (frameA 8).ident ∧
    (slotLost.Ready ∧ slotLost.SlotsSound ∧ (slotLost.slot 3).state = .stale) := by
  decide +kernel

/-- The slots of the Economy Controller, each fed alone. -/
theorem test_witness_FrameSamplesSlots_sound : ∀ i : Fin 8, (slotFed i.val).SlotsSound := by decide +kernel
theorem test_witness_FrameSamplesSlots_alone :
    ∀ i j : Fin 8, (slotFed i.val).Ready ∧ ((slotFed i.val).source i.val).identifier = some (frameA 8).ident ∧
      (j ≠ i → ((slotFed i.val).source j.val).identifier ≠ some (frameA 8).ident) := by
  decide +kernel
/-- A slot of each consumer changes state, by an accepted and by a refused sample. -/
theorem test_witness_FrameSamplesSlots_moves :
    (∀ i : Fin 8, ((slotFed i.val).slot i.val).state = .never ∧
      ((after (.frameArrival (frameA 7)) (slotFed i.val)).slot i.val).state = .implausible) ∧
    ((after (.frameArrival (frameA 8)) (slotFed 0)).slot 0).state = .fresh ∧
    (withEc .settling (some 1) none none).ec.state = .settling := by
  decide +kernel

/-- Values of 257 and 514 on either side of each threshold of chapter 7. -/
theorem test_witness_FrameSamplesSlots_economy :
    (defaultSettings.runThreshold ≤ 257 + 257 ∧ ¬(defaultSettings.runThreshold ≤ 257) ∧ State.reset.ec.state = .stopped ∧
      (withEc .working none none none).ec.state ≠ .stopped) ∧
    (defaultSettings.oilStart ≤ 257 ∧ (defaultSettings.pilotThreshold : Int) < 257) := by
  decide +kernel

theorem test_witness_SourceSlotsMove :
    (slotFed 7).Ready ∧ (slotFed 7).SlotsSound ∧ (slotFed 7).nu.notices.length = 110 ∧ (slotFed 7).ec.copies.length = 5 ∧
    (slotFed 7).pu.links.length = 3 ∧ ((slotFed 7).slot 7).timer = some 20 ∧ sourceA.Sound 7 ∧
    ({ sourceA with identifier := none, lo := -32768, hi := 32767, timeout := 2000 } : SourceRecord).Sound 6 ∧
    8 ≤ (8 : Byte).toNat ∧ (List.replicate 16 (255 : Byte)).length = 16 ∧
    sourceOf 7 (List.replicate 16 255) = none := by
  decide +kernel

/-- A period to judge, with an attempt on the bus, and the unsent period that leads to BUS_OFF. -/
theorem test_witness_DemandPeriodJudged :
    let m : DemandMessage := { ident := 0, speed := 900, torque := 60, idle := false, shutdown := false, counter := 0 }
    let s (unsent : Nat) : State :=
      withMbp { State.reset.mbp with period := some 50, built := true, waiting := some m, unsent := unsent }
    (s 15).Ready ∧ (s 15).mbp.period = some 50 ∧ (s 15).mbp.waiting.isSome ∧ (s 15).mbp.deferred = false ∧
    16 ≤ (s 15).mbp.unsent + 1 ∧ (s 14).mbp.unsent + 1 < 16 := by
  decide +kernel

theorem test_witness_DemandAttemptEnds :
    let m : DemandMessage := { ident := 0, speed := 900, torque := 60, idle := false, shutdown := false, counter := 0 }
    let s (deferred : Bool) (unsent : Nat) : State :=
      withMbp { State.reset.mbp with period := some 50, deferred := deferred, waiting := some m, unsent := unsent }
    (s true 14).Ready ∧ (s true 14).mbp.deferred = true ∧ (s true 14).mbp.unsent < 15 ∧ 15 ≤ (s true 15).mbp.unsent ∧
    (s false 0).mbp.deferred = false ∧ (s false 0).mbp.waiting.isSome ∧ State.reset.mbp.deferred = false ∧
    State.reset.mbp.waiting = none ∧ (withMbp { State.reset.mbp with recovery := some 1000 }).mbp.recovery = some 1000 := by
  decide +kernel

theorem test_witness_ZoneEditModes :
    State.reset.Ready ∧ State.reset.zt.isOpen = false ∧ openTable.Ready ∧ openTable.zt.isOpen = true ∧
    openTable.zt.edit = some 10000 := by
  decide +kernel

theorem test_witness_ZoneEntriesWritten_zone : zoneA.Sound := by and_intros <;> first | decide | rfl

/-- Indexes at the ends of their ranges, ANY with a free place and without, an occupied and an EMPTY entry. -/
theorem test_witness_ZoneEntriesWritten :
    let full : State := { openTable with ret := { defaultRetained with zones := List.replicate 12 (some zoneA) } }
    openTable.Ready ∧ State.reset.zt.isOpen = false ∧ zoneA.payload.length = 13 ∧ (11 : Byte).toNat < 12 ∧
    (0 < openTable.ret.zones.length ∧ openTable.ret.zones.getD 0 none = none) ∧
    ((11 : Nat) < 12 ∧ (11 : Nat) < (full.ret.zones.set 11 none).length ∧ (full.ret.zones.set 11 none).getD 11 none = none ∧
      ∀ j, j < 11 → (full.ret.zones.set 11 none).getD j none ≠ none) ∧
    (∀ e ∈ full.ret.zones, e ≠ none) ∧ (12 ≤ (12 : Byte).toNat ∧ (254 : Byte) ≠ 255) ∧
    full.ret.zones.getD 11 none = some zoneA ∧ openTable.ret.zones.getD 11 none = none ∧ (31 : Byte).toNat < 32 ∧
    32 ≤ (32 : Byte).toNat ∧ ((List.replicate 13 (0 : Byte)).length = 13 ∧ zoneOf (List.replicate 13 0) = none) ∧
    sectorOf [0, 2] = none := by
  decide +kernel

theorem test_witness_SurfacesAndTarget :
    let s : State := withRet { defaultRetained with surfaces := [some (surfaceA .grade 0), some (surfaceA .floor 0)] ++ List.replicate 6 none }
    s.Ready ∧ (surfaceA .grade 30000).Sound ∧ (7 : Byte).toNat < 8 ∧ s.ret.surfaces.getD 0 none = some (surfaceA .grade 0) ∧
    s.ret.surfaces.getD 7 none = none ∧ s.ret.surfaces.getD 1 none = some (surfaceA .floor 0) ∧
    ¬((surfaceA .floor 0).active = true ∧ (surfaceA .floor 0).kind = .grade) ∧
    (8 ≤ (8 : Byte).toNat ∧ (255 : Byte) ≠ 254 ∧ (8 : Byte) ≠ 255) ∧ surfaceOf (List.replicate 14 0) = none ∧
    (2 < s.ret.surfaces.length ∧ s.ret.surfaces.getD 2 none = none ∧ ∀ j, j < 2 → s.ret.surfaces.getD j none ≠ none) ∧
    (∀ e ∈ List.replicate 8 (some (surfaceA .floor 0)), e ≠ none) ∧
    ({ State.reset with gg := { State.reset.gg with
      floor := { startFloor with state := .holding, held := some .none }, hold := some 500 } } : State).gg.hold = some 500 := by
  decide +kernel

theorem test_witness_GeometryWritten :
    State.reset.Ready ∧ dimsA.Sound ∧ (-30000 : Int) ≤ -30000 ∧ (30000 : Int) ≤ 30000 ∧ (-30000 : Int) + 500 ≤ -29500 ∧
    (-29501 : Int) < -30000 + 500 ∧ geometryOf (List.replicate 20 0) = none ∧ (1 : Byte) ≠ 0 := by
  decide +kernel

/-- Plain settings at both ends of the list, and the indexes that are no setting. -/
theorem test_witness_SettingsClamped :
    State.reset.Ready ∧ State.reset.CountSound ∧ ((33 : Nat), (0 : Int), (1 : Int)) ∈ plainRanges ∧
    ((2 : Nat), (0 : Int), (1 : Int)) ∈ plainRanges ∧ ((16 : Nat), (100 : Int), (20000 : Int)) ∈ plainRanges ∧
    (-2147483648 : Int) ≤ -2147483648 ∧ (2147483647 : Int) ≤ 2147483647 ∧ 36 ≤ (36 : Byte).toNat ∧
    (35 : Byte) = BitVec.ofNat 8 35 := by
  decide +kernel

/-- The bit rate with a judgement that waits, transmission that is enabled, CPR and index position written and clamped. -/
theorem test_witness_SettingsClamped_bus :
    let on : Settings := { defaultSettings with demandEnable := true, demandId := some 5 }
    let waits (unsent : Nat) : State := withMbp { State.reset.mbp with deferred := true, unsent := unsent }
    (defaultSettings.canBitRate = 250 ∧ (499 : Int) < 500 ∧ ¬(500 : Int) < 500) ∧
    ((waits 14).Ready ∧ (waits 14).CountSound ∧ (waits 14).mbp.unsent < 15 ∧ 15 ≤ (waits 15).mbp.unsent) ∧
    ((withSettings on).Ready ∧ (withSettings on).CountSound ∧ on.demandEnable = true ∧ on.demandId.isSome = true ∧
      ¬(defaultSettings.demandEnable = true ∧ defaultSettings.demandId.isSome = true)) ∧
    (max 1000 (min 1000000 (999 : Int))).toNat ≠ defaultSettings.cpr ∧
    (max 0 (min ((defaultSettings.cpr : Int) - 1) 36000)).toNat ≠ defaultSettings.indexPos := by
  decide +kernel

/-- ENGINE_SPEED, HYD_OIL_TEMP and PILOT_PRESSURE on either side of the thresholds that a write can bring. -/
theorem test_witness_SettingsClamped_judged :
    let fed (i : Nat) (v : Int) : State :=
      { State.reset with ec := { State.reset.ec with copies := State.reset.ec.copies.set i ⟨.fresh, some v⟩ } }
    let x := defaultSettings
    ((fed 1 300).Ready ∧ (fed 1 300).CountSound ∧ (fed 1 300).ec.copies.getD 1 ⟨.disabled, none⟩ = ⟨.fresh, some 300⟩ ∧
      (max 300 (min 700 (0 : Int))).toNat ≤ 300 ∧ 300 < (max 300 (min 700 (301 : Int))).toNat ∧
      { x with runThreshold := 300 } ≠ x ∧ { x with runThreshold := 301 } ≠ x ∧ { x with runThreshold := 400 } = x) ∧
    ((fed 4 0).ec.copies.getD 4 ⟨.disabled, none⟩ = ⟨.fresh, some 0⟩ ∧ (fed 4 0).ec.active = true ∧
      (fed 4 0).ec.omega.natAbs ≤ (fed 4 0).ec.gateStill ∧ { x with pilotThreshold := 0 } ≠ x) ∧
    ((fed 3 70).ec.copies.getD 3 ⟨.disabled, none⟩ = ⟨.fresh, some 70⟩ ∧ (fed 3 70).ec.oilLatch = false ∧
      (max 70 (min 110 (0 : Int))).toNat = 70 ∧ { x with oilStart := 70 } ≠ x ∧ (70 : Int) ≤ (75 : Nat) - 5) := by
  decide +kernel

/-- Delays to 0 and from 0, and thresholds that meet. -/
theorem test_witness_SettingsClamped_delays :
    let s : State :=
      { withSettings { defaultSettings with autoIdleDelay := 0, shutdownDelay := 60 } with
        ec := { State.reset.ec with state := .working, active := false } }
    ((withEc .settling (some 1) none none).Ready ∧ (withEc .settling (some 1) none none).CountSound ∧
      defaultSettings.autoIdleDelay ≠ 0 ∧ defaultSettings.shutdownDelay = 0) ∧
    (s.Ready ∧ s.CountSound ∧ s.ec.state = .working ∧ s.ec.active = false ∧ s.ret.settings.autoIdleDelay = 0 ∧
      s.ret.settings.shutdownDelay ≠ 0) ∧
    ((withEc .idling none none none).ec.state = .idling ∧ (withEc .idling none none none).Ready) ∧
    ((max 160 (min 280 (164 : Int))).toNat / 5 * 5 = 160 ∧
      defaultSettings.supplyUp ≤ (max 160 (min 280 (281 : Int))).toNat / 5 * 5 ∧
      (max 165 (min 285 (180 : Int))).toNat / 5 * 5 ≤ defaultSettings.supplyDown) := by
  decide +kernel

theorem test_witness_WorkModesWritten :
    State.reset.Ready ∧ (3 : Byte).toNat < 4 ∧ 65535 < 65536 ∧ 255 < 256 ∧ State.reset.ret.selectedMode ≠ (3 : Byte).toNat ∧
    State.reset.ret.selectedMode = (1 : Byte).toNat ∧ State.reset.ec.state = .stopped ∧
    (withEc .settling (some 1) none none).Ready ∧ (withEc .settling (some 1) none none).ec.state = .settling ∧
    (withEc .idling none none none).Ready ∧ (withEc .idling none none none).ec.state = .idling ∧ 4 ≤ (4 : Byte).toNat := by
  decide +kernel

theorem test_witness_EconomyTimersMove :
    (withEc .settling (some 4000) none none).Ready ∧ (withEc .settling (some 4000) none none).ec.autoIdle = some 4000 ∧
    (withEc .idling none (some 30000) none).Ready ∧ (withEc .idling none (some 30000) none).ec.shutdown = some 30000 ∧
    30000 ≤ 30000 ∧ (withEc .shutdownRequested none none (some 30000)).Ready ∧
    (withEc .shutdownRequested none none (some 30000)).ec.wait = some 30000 := by
  decide +kernel

/-- T unchanged; and T moved by a change of state, at a figure in 40..100. -/
theorem test_witness_TorqueWorkedOut :
    torqueLimit State.reset.ret State.reset.ec.state State.reset.ec.oilLatch = State.reset.ec.torque ∧
    torqueLimit defaultRetained .working false ≠ (withEc .working none none none).ec.torque ∧
    40 ≤ torqueLimit defaultRetained .working false ∧ torqueLimit defaultRetained .working false ≤ 100 := by
  decide +kernel

theorem test_witness_QuantumMetered :
    metered.Ready ∧ metered.metering = true ∧ metered.ret.engineMeter < 4000000000 ∧ State.reset.metering = false ∧
    4000000000 ≤ ({ defaultRetained with engineMeter := 4000000000 } : Retained).engineMeter ∧
    ({ defaultRetained with items := [some itemA] } : Retained).item 0 = some itemA := by
  decide +kernel

theorem test_witness_ServiceItemsWritten :
    let s : State := { keyed with ret := { defaultRetained with items := defaultRetained.items.set 23 (some itemA) } }
    keyed.Ready ∧ (23 : Byte).toNat < 24 ∧ keyed.ret.items.length = 24 ∧ State.reset.pins.keyAsserted = false ∧
    itemA.payload.length = 16 ∧ keyed.pins.keyAsserted = true ∧ itemA.Sound ∧ keyed.ret.item 23 = none ∧
    s.Ready ∧ s.ret.items.length = 24 ∧ s.ret.item 23 = some itemA ∧
    itemA.basis ≠ ({ itemA with basis := .engineHours } : Item).basis ∧ 1 ≤ itemA.interval ∧ itemA.lead ≤ itemA.interval ∧
    (keyed.ret.item 0 = none ∧ 0 < 24) ∧
    (∀ k, k < 24 → ({ defaultRetained with items := List.replicate 24 (some itemA) } : Retained).item k ≠ none) ∧
    (24 ≤ (24 : Byte).toNat ∧ (24 : Byte) ≠ 255) ∧ itemOf (List.replicate 16 0) = none := by
  decide +kernel

/-- A working link that waits for each kind of read; entries occupied and EMPTY, and indexes and tables at the ends of their
ranges. -/
theorem test_witness_ReadsChangeNothing :
    let s (q : ReadRequest) (r : Retained) : State :=
      { withLink { startLink with state := .working, answer := some (.read q) } with ret := r }
    let r : Retained :=
      { defaultRetained with
        zones := defaultRetained.zones.set 11 (some zoneA), surfaces := defaultRetained.surfaces.set 7 (some (surfaceA .floor 0))
        items := defaultRetained.items.set 23 (some itemA) }
    State.reset.Ready ∧ (s .pose r).Ready ∧ (s .pose r).link.state = .working ∧
    (∀ q ∈ ([.pose, .guidance, .limits, .economy, .drive, .entry 1 11, .list 8, .entry 9 36] : List ReadRequest),
      (s q r).link.answer = some (.read q)) ∧
    (r.zones.getD 11 none = some zoneA ∧ r.zones.getD 0 none = none) ∧
    (r.surfaces.getD 7 none = some (surfaceA .floor 0) ∧ r.surfaces.getD 0 none = none) ∧
    (r.item 23 = some itemA ∧ r.item 0 = none) ∧ (9, 36) ∈ [((9 : Nat), (36 : Nat))] ∧ 10 ≤ 10 := by
  decide +kernel

theorem test_witness_AcknowledgementsTaken :
    State.reset.Ready ∧ State.reset.nu.Sound ∧ State.reset.nu.list.head? = some 35 ∧
    ({ State.reset with nu := startNu } : State).nu.Sound ∧ ({ State.reset with nu := startNu } : State).nu.list = [] ∧
    110 ≤ (110 : Byte).toNat ∧ ((109 : Byte).toNat < 110 ∧ isRaised State.reset.nu.notices 109 = false) ∧
    isRaised State.reset.nu.notices 57 = true := by
  decide +kernel

theorem test_witness_LampTimersRun :
    State.reset.Ready ∧ State.reset.nu.red.flash = some 500 ∧ State.reset.nu.amber.flash = some 500 ∧
    ({ State.reset.nu with red := { startLamp with mode := .stretch, lit := true, stretch := some 1000 } } : Nu).red.stretch
      = some 1000 := by
  decide +kernel

/-- Qualifications one expiry short of their time and complete, with a test of the channel; an output at each part of its
triangle. -/
theorem test_witness_RampMovesCurrent :
    let c : Channel := { startChannel 600 with commanded := 600, openQual := 10, reachQual := 30, ditherSince := some 0 }
    (withChan 3 c).Ready ∧ (withChan 3 c).vd.chans.length = 4 ∧ List.replicate 10 149 ≠ [] ∧
    ((withChan 3 c).vd.chan 3).ramp = some 10 ∧
    ((withChan 3 c).vd.chan 3).fault = none ∧ 600 ≥ (State.reset.ret.config 3).start ∧ 4 * 149 < 600 ∧
    ((withChan 3 { c with fault := some .openLoad }).vd.chan 3).fault.isSome ∧
    (State.reset.vd.chan 0).ditherSince = none ∧ ((withChan 3 c).vd.chan 3).ditherSince = some 0 ∧
    ((withChan 3 c).phase = .running ∧ shut.phase ≠ .running) ∧
    (2 * (State.reset.ret.config 3).ditherFreq % 1000 < 250 ∧ 250 ≤ 3 * (State.reset.ret.config 3).ditherFreq % 1000 ∧
      750 ≤ 8 * (State.reset.ret.config 3).ditherFreq % 1000) := by
  decide +kernel

theorem test_witness_OverCurrentTaken :
    State.reset.Ready ∧ State.reset.vd.chans.length = 4 ∧ (State.reset.vd.chan 3).fault = none ∧
    (State.reset.ret.config 3).imax + 300 < 1301 ∧ 1300 ≤ (State.reset.ret.config 3).imax + 300 ∧
    4 ≤ (4 : Byte).toNat ∧ (3 : Byte).toNat < 4 ∧
    ((withChan 3 { startChannel 0 with fault := some .overCurrent }).vd.chan 3).fault.isSome ∧
    State.reset.faultN = false ∧ (withChan 3 (startChannel 0)).faultN = true := by
  decide +kernel

theorem test_witness_SupplyQualified :
    let up : State := { State.reset with
      vd := { State.reset.vd with supplyLow := false, downQual := some 20 }, pins := { State.reset.pins with supply := 189 } }
    let low : State := { State.reset with
      vd := { State.reset.vd with upQual := some 100 }, pins := { State.reset.pins with supply := 190 } }
    up.Ready ∧ up.vd.supplyLow = false ∧ up.vd.downQual = some 20 ∧ up.pins.supply < defaultSettings.supplyUp ∧
    up.vd.upQual = none ∧ low.Ready ∧ low.vd.supplyLow = true ∧ low.vd.upQual = some 100 ∧
    defaultSettings.supplyDown ≤ low.pins.supply ∧ low.vd.downQual = none := by
  decide +kernel

theorem test_witness_DriveTestRuns :
    State.reset.Ready ∧ State.reset.pins.keyAsserted = false ∧ keyed.Ready ∧ keyed.pins.keyAsserted = true ∧
    4 ≤ (4 : Byte).toNat ∧ (3 : Byte).toNat < 4 ∧ (keyed.ec.state = .stopped ∧ (keyed.vd.chan 3).fault = none) ∧
    (withEc .working none none none).ec.state ≠ .stopped ∧ (withEc .working none none none).ec.state ≠ .idling ∧
    (after (.driveTest 3 2000 100) keyed).vd.test.isSome ∧ keyed.vd.test = none ∧
    (after (.driveTest 3 2000 100) keyed).vd.duration = some 100 := by
  decide +kernel

/-- A channel with a commanded current to bring into range, a test of it, and a floor that is held. -/
theorem test_witness_ChannelConfigured :
    let near : State := { State.reset with
      gg := { State.reset.gg with
        floor := { state := .holding, held := some .near, index := some 0, dF := some 250, band := some 500, target := 500 } }
      vd := { State.reset.vd with chans := State.reset.vd.chans.set 2 { startChannel 500 with commanded := 500 } } }
    State.reset.Ready ∧ State.reset.TargetsSound ∧ (3 : Byte).toNat < 4 ∧ 4 ≤ (4 : Byte).toNat ∧ 65535 < 65536 ∧ 255 < 256 ∧
    near.Ready ∧ near.TargetsSound ∧ (after (.driveTest 2 2000 100) keyed).TargetsSound ∧
    (after (.driveTest 2 2000 100) keyed).vd.test.isSome := by
  decide +kernel

/-- Each state of the link, with a transaction that began in it or before it. -/
theorem test_witness_LinkMoves :
    let t (b : Bool) : Option Transaction := some { beganReady := b, sdo := [] }
    let a : Answer := .done 5 .ok []
    State.reset.Ready ∧ State.reset.pins.csLow = false ∧
    (withLink { startLink with transaction := t false }).link.state = .idle ∧
    (withLink { startLink with state := .working, answer := some a, transaction := t false }).link.response = none ∧
    (withLink { startLink with state := .ready, response := some [5, 0, 0, 0], transaction := t true }).link.response
      = some [5, 0, 0, 0] ∧
    ([5, 0, 0, 0] : List Byte).length ≤ ([0, 0, 0, 0] : List Byte).length ∧ (1 ≤ ([1] : List Byte).length ∧ ([1] : List Byte).getD 0 0 ≠ 0) ∧
    ¬(1 ≤ ([] : List Byte).length) ∧ State.reset.link.transaction = none ∧ State.reset.link.state ≠ .working ∧
    (withLink { startLink with state := .working, answer := some (.read .notices) }).link.answer = some (.read .notices) := by
  decide +kernel

theorem test_witness_ResetsAndPower :
    State.reset.inbox = [] ∧ State.reset.phase = .running ∧ State.reset.backupDropped = false ∧
    ({ shut with backupDropped := true } : State).backupDropped = true ∧ shut.phase = .unpowered ∧
    (shut.setResetLow true).pins.resetLow = true ∧ (shut.setResetLow true).inbox = [] ∧
    State.reset.pins.keyAsserted = false ∧ (keyed.pins.keyAsserted = true ∧ keyed.ec.state = .stopped) ∧
    ({ keyed with ec := { keyed.ec with state := .working } } : State).ec.state ≠ .stopped ∧
    keyed.ret.sources.length = 8 ∧ keyed.ret.configs.length = 4 := by
  decide +kernel

end Sys2Proof.Tests
end

-- ==== Proofs of sitting 1: the Source Table ====

section
/-! PROOFS. The Source Table's invariant (01 R2, R4): which operations leave slots and records alone, and what the few that
touch them do to the invariant. -/

namespace Sys2Proof.Machine

/-! ### What leaves the Source Table as it was -/

/-- The slots and the records of the Source Table stand as in another state. -/
def State.SameSources (t s : State) : Prop := t.mbp.slots = s.mbp.slots ∧ t.ret.sources = s.ret.sources

theorem State.SameSources.refl (s : State) : s.SameSources s := ⟨rfl, rfl⟩

theorem State.SameSources.trans {u t s : State} (h : u.SameSources t) (h' : t.SameSources s) : u.SameSources s :=
  ⟨h.1.trans h'.1, h.2.trans h'.2⟩

section
variable (s : State)

theorem State.deliver_sameSources : s.deliver.SameSources s := ⟨rfl, rfl⟩

theorem State.report_sameSources (rs : List Report) : (s.report rs).SameSources s := ⟨rfl, rfl⟩

theorem State.serviceEvent_sameSources (p : ServiceBasis → Bool) (f : Item → Item) :
    (s.serviceEvent p f).SameSources s := by
  rw [State.serviceEvent_frame]; exact ⟨rfl, rfl⟩

theorem State.writeItem_sameSources (i : Nat) (it : Item) : (s.writeItem i it).SameSources s := by
  rw [State.writeItem_frame]; exact ⟨rfl, rfl⟩

theorem State.recompute_sameSources : s.recompute.SameSources s := by
  rw [State.recompute_frame]; exact ⟨rfl, rfl⟩

theorem State.ecGate_sameSources (w : Int) : (s.ecGate w).SameSources s := by
  rw [State.ecGate_frame]; exact ⟨rfl, rfl⟩

theorem State.puGate_sameSources (phi : Nat) (r : Bool) (w : Int) : (s.puGate phi r w).SameSources s := by
  rw [State.puGate_frame]; exact ⟨rfl, rfl⟩

theorem State.tellConsumer_sameSources (i : Nat) (c a : Bool) : (s.tellConsumer i c a).SameSources s := by
  rw [State.tellConsumer_frame]; exact ⟨rfl, rfl⟩

theorem State.periodEnds_sameSources (b : Bool) : (s.periodEnds b).SameSources s := by
  unfold State.periodEnds
  repeat' split
  all_goals exact ⟨rfl, rfl⟩

theorem State.attemptEnds_sameSources (b : Bool) : (s.attemptEnds b).SameSources s := by
  unfold State.attemptEnds
  repeat' split
  all_goals exact ⟨rfl, rfl⟩

theorem State.busRejoined_sameSources : s.busRejoined.SameSources s := by
  unfold State.busRejoined
  split
  · exact s.attemptEnds_sameSources false
  · exact .refl s

theorem State.demandWritten_sameSources (b : Bool) : (s.demandWritten b).SameSources s := by
  unfold State.demandWritten
  split <;> exact ⟨rfl, rfl⟩

theorem State.closeGate_sameSources (count : Nat) (r : Bool) : (s.closeGate count r).SameSources s := by
  unfold State.closeGate
  dsimp only
  split
  · exact (State.serviceEvent_sameSources _ _ _).trans
      ((State.ecGate_sameSources _ _).trans (State.puGate_sameSources _ _ _ _))
  · exact (State.ecGate_sameSources _ _).trans (State.puGate_sameSources _ _ _ _)

theorem State.gateExpires_sameSources : s.gateExpires.SameSources s := by
  unfold State.gateExpires
  split <;> exact State.closeGate_sameSources _ _ _

theorem State.completeQuantum_sameSources : s.completeQuantum.SameSources s :=
  (State.serviceEvent_sameSources _ _ _).trans ⟨rfl, rfl⟩

theorem State.rampExpires_sameSources (ch : Nat) (l : List Nat) : (s.rampExpires ch l).SameSources s := by
  unfold State.rampExpires
  dsimp only
  split <;> exact ⟨rfl, rfl⟩

theorem State.prepare_sameSources : s.prepare.SameSources s := by
  rw [State.prepare_frame]; exact ⟨rfl, rfl⟩

theorem State.openZones_sameSources : s.openZones.SameSources s := by
  unfold State.openZones
  split <;> exact ⟨rfl, rfl⟩

theorem State.selectTarget_sameSources (i : Nat) : (s.selectTarget i).1.SameSources s := by
  unfold State.selectTarget
  repeat' split
  all_goals exact ⟨rfl, rfl⟩

theorem State.selectMode_sameSources (i : Nat) : (s.selectMode i).SameSources s := by
  unfold State.selectMode
  dsimp only
  repeat' split
  all_goals exact ⟨rfl, rfl⟩

theorem State.serviceDone_sameSources (i : Nat) : (s.serviceDone i).1.SameSources s := by
  unfold State.serviceDone
  repeat' split
  any_goals exact .refl s
  all_goals exact State.writeItem_sameSources _ _ _

theorem State.ackHead_sameSources : s.ackHead.1.SameSources s := by
  unfold State.ackHead
  split <;> exact ⟨rfl, rfl⟩

theorem State.ackNotice_sameSources (n : Nat) : (s.ackNotice n).1.SameSources s := by
  unfold State.ackNotice
  repeat' split
  all_goals exact ⟨rfl, rfl⟩

theorem State.clearValveFault_sameSources (ch : Nat) : (s.clearValveFault ch).1.SameSources s := by
  unfold State.clearValveFault
  repeat' split
  all_goals exact ⟨rfl, rfl⟩

theorem State.driveTest_sameSources (ch c d : Nat) : (s.driveTest ch c d).1.SameSources s := by
  unfold State.driveTest
  repeat' split
  all_goals exact ⟨rfl, rfl⟩

theorem State.driveTestStop_sameSources : s.driveTestStop.1.SameSources s := by
  unfold State.driveTestStop
  split <;> exact ⟨rfl, rfl⟩

/-! ### The requests on tables other than SOURCES -/

theorem State.settingChanged_sameSources (before : Settings) (n : Nat) :
    (s.settingChanged before n).SameSources s := by
  refine ⟨?_, by rw [State.settingChanged_ret]⟩
  unfold State.settingChanged
  split
  case h_1 => exact s.busRejoined_sameSources.1
  case h_2 => exact (s.demandWritten_sameSources _).1
  case h_3 => exact (s.demandWritten_sameSources _).1
  case h_15 => rw [State.judgeEngine_frame]
  case h_16 => unfold State.autoIdleWritten; repeat' split
               all_goals rfl
  case h_17 => unfold State.shutdownWritten; repeat' split
               all_goals rfl
  case h_18 => rw [State.judgeActivity_frame]
  case h_20 => rw [State.judgeOil_frame]
  all_goals rfl

theorem State.applySetting_sameSources (n : Nat) (x : Settings) : (s.applySetting n x).SameSources s := by
  unfold State.applySetting
  split
  · exact .refl s
  · exact (State.settingChanged_sameSources _ _ _).trans ⟨rfl, rfl⟩

theorem State.writeSetting_sameSources (n : Nat) (v : Int) : (s.writeSetting n v).1.SameSources s := by
  unfold State.writeSetting
  split
  · exact .refl s
  · exact s.applySetting_sameSources _ _

theorem State.writeGeometry_sameSources (g : Geometry) : (s.writeGeometry g).SameSources s :=
  (State.recompute_sameSources _).trans ⟨rfl, rfl⟩

theorem State.handBack_sameSources (ch : Nat) : (s.handBack ch).SameSources s := by
  rw [State.handBack_frame]; exact ⟨rfl, rfl⟩

theorem State.writeChannel_sameSources (ch : Nat) (c : ChannelConfig) : (s.writeChannel ch c).SameSources s :=
  (State.handBack_sameSources _ _).trans ⟨rfl, rfl⟩

theorem State.writeMode_sameSources (i : Nat) (m : WorkMode) : (s.writeMode i m).SameSources s := by
  unfold State.writeMode
  dsimp only
  split <;> exact ⟨rfl, rfl⟩

theorem State.derateReport_sameSources (b : Bool) : (s.derateReport b).SameSources s := by
  rw [State.derateReport_frame]; exact ⟨rfl, rfl⟩

theorem State.putZone_sameSources (i : Nat) (p : List Byte) : (s.putZone i p).1.SameSources s := by
  unfold State.putZone
  dsimp only
  repeat' split
  all_goals exact ⟨rfl, rfl⟩

theorem State.retireZone_sameSources (i : Nat) : (s.retireZone i).1.SameSources s := by
  unfold State.retireZone
  dsimp only
  repeat' split
  all_goals exact ⟨rfl, rfl⟩

theorem State.putSector_sameSources (i : Nat) (p : List Byte) : (s.putSector i p).1.SameSources s := by
  unfold State.putSector
  dsimp only
  repeat' split
  all_goals exact ⟨rfl, rfl⟩

theorem State.retireSector_sameSources (i : Nat) : (s.retireSector i).1.SameSources s := by
  unfold State.retireSector
  repeat' split
  all_goals exact ⟨rfl, rfl⟩

theorem State.putSurface_sameSources (i : Nat) (p : List Byte) : (s.putSurface i p).1.SameSources s := by
  unfold State.putSurface
  repeat' split
  all_goals exact ⟨rfl, rfl⟩

theorem State.retireSurface_sameSources (i : Nat) : (s.retireSurface i).1.SameSources s := by
  unfold State.retireSurface
  repeat' split
  all_goals exact ⟨rfl, rfl⟩

theorem State.putItem_sameSources (i : Nat) (p : List Byte) : (s.putItem i p).1.SameSources s := by
  unfold State.putItem
  repeat' split
  any_goals exact .refl s
  all_goals exact State.writeItem_sameSources _ _ _

theorem State.retireItem_sameSources (i : Nat) : (s.retireItem i).1.SameSources s := by
  unfold State.retireItem
  repeat' split
  any_goals exact .refl s
  exact (State.derateReport_sameSources _ _).trans ⟨rfl, rfl⟩

theorem State.putGeometry_sameSources (i : Nat) (p : List Byte) : (s.putGeometry i p).1.SameSources s := by
  unfold State.putGeometry
  repeat' split
  any_goals exact .refl s
  exact State.writeGeometry_sameSources _ _

theorem State.retireGeometry_sameSources (i : Nat) : (s.retireGeometry i).1.SameSources s := by
  unfold State.retireGeometry
  split
  · exact .refl s
  · exact s.writeGeometry_sameSources _

theorem State.putMode_sameSources (i : Nat) (p : List Byte) : (s.putMode i p).1.SameSources s := by
  unfold State.putMode
  split
  · exact .refl s
  · exact s.writeMode_sameSources _ _

theorem State.putChannel_sameSources (i : Nat) (p : List Byte) : (s.putChannel i p).1.SameSources s := by
  unfold State.putChannel
  split
  · exact .refl s
  · exact s.writeChannel_sameSources _ _

theorem State.retireChannel_sameSources (i : Nat) : (s.retireChannel i).1.SameSources s := by
  unfold State.retireChannel
  split
  · exact .refl s
  · exact s.writeChannel_sameSources _ _

theorem State.retireSetting_sameSources (n : Nat) : (s.retireSetting n).1.SameSources s :=
  s.writeSetting_sameSources n _

end

/-! ### What keeps the invariant -/

theorem State.SlotsSound.of_same {t s : State} (h : s.SlotsSound) (h' : t.SameSources s) : t.SlotsSound := by
  obtain ⟨hm, hr⟩ := h'
  simpa only [State.SlotsSound, State.slot, State.source, hm, hr] using h

/-- A slot and its record agree as R2 and R4 ask. -/
def SlotAgrees (slot : SourceSlot) (x : SourceRecord) : Prop :=
  (slot.state = .disabled ↔ x.identifier = none) ∧ (slot.timer.isSome ↔ slot.state.timed = true) ∧
    (slot.state = .fresh → slot.lastGood.isSome ∧ slot.lastTime.isSome)

theorem State.slotsSound_iff {s : State} :
    s.SlotsSound ↔ s.mbp.slots.length = 8 ∧ s.ret.sources.length = 8 ∧ ∀ i, i < 8 → SlotAgrees (s.slot i) (s.source i) :=
  Iff.rfl

/-- The slot read at an index of a table with one entry replaced. -/
theorem State.setSlot_slot (s : State) (i j : Nat) (x : SourceSlot) :
    (s.setSlot i x).slot j = if i = j ∧ i < s.mbp.slots.length then x else s.slot j := by
  simp only [State.slot, State.setSlot, List.getD_eq_getElem?_getD, List.getElem?_set]
  by_cases hij : i = j
  · subst hij
    by_cases hi : i < s.mbp.slots.length <;> simp [hi]
  · simp [hij]

theorem State.SlotsSound.setSlot {s : State} (h : s.SlotsSound) {i : Nat} {x : SourceSlot}
    (hx : SlotAgrees x (s.source i)) : (s.setSlot i x).SlotsSound := by
  obtain ⟨hl, hr, ha⟩ := State.slotsSound_iff.mp h
  refine State.slotsSound_iff.mpr ⟨by simpa [State.setSlot] using hl, hr, fun j hj => ?_⟩
  rw [State.setSlot_slot]
  split
  · next hij => obtain ⟨rfl, _⟩ := hij; exact hx
  · exact ha j hj

theorem State.SlotsSound.elapse {s : State} (h : s.SlotsSound) (dt : Nat) : (s.elapse dt).SlotsSound := by
  obtain ⟨hl, hr, ha⟩ := State.slotsSound_iff.mp h
  refine State.slotsSound_iff.mpr ⟨by simpa [Mbp.elapse] using hl, hr, fun i hi => ?_⟩
  have hslot : (s.elapse dt).slot i = { s.slot i with timer := (s.slot i).timer.elapse dt } := by
    simp [State.slot, Mbp.elapse, List.getD_eq_getElem?_getD, hl, hi]
  have hsource : (s.elapse dt).source i = s.source i := rfl
  rw [hslot, hsource]
  simpa [SlotAgrees, Timer.elapse] using ha i hi

theorem State.SlotsSound.deliver {s : State} (h : s.SlotsSound) : s.deliver.SlotsSound := h.of_same s.deliver_sameSources

/-- An effect that keeps the invariant makes a step that keeps it. -/
theorem State.SlotsSound.commit {s t : State} (h : s.SlotsSound) {f : State → State} (ht : s.commit f = .next t)
    (hf : ∀ u : State, u.SlotsSound → (f u).SlotsSound) : t.SlotsSound := by
  by_cases hp : s.phase = .running
  · rw [State.commit_running hp] at ht; cases ht; exact (hf s h).deliver
  · rw [State.commit_stopped hp] at ht; cases ht; exact h

theorem State.SlotsSound.commitPins {s t : State} (h : s.SlotsSound) {p : Pins} {f : State → State}
    (ht : s.commitPins p f = .next t) (hf : ∀ u : State, u.SlotsSound → (f u).SlotsSound) : t.SlotsSound := by
  by_cases hp : s.phase = .running
  · rw [State.commitPins_running hp] at ht; cases ht; exact (hf { s with pins := p } h).deliver
  · rw [State.commitPins_stopped hp] at ht; cases ht; exact h

theorem State.SlotsSound.expire {s : State} (h : s.SlotsSound) {timer : Timer} {f : State → State}
    (hf : ∀ u : State, u.SlotsSound → (f u).SlotsSound) : (s.expire timer f).SlotsSound := by
  cases timer with
  | none => exact h
  | some left => exact hf _ (h.elapse left)

/-! ### Samples, timeouts, writes -/

theorem State.SlotsSound.acceptSample {s : State} (h : s.SlotsSound) {i : Nat} {v : Int}
    (hid : (s.source i).identifier ≠ none) : (s.acceptSample i v).SlotsSound := by
  unfold State.acceptSample
  refine State.SlotsSound.of_same ?_ (State.tellConsumer_sameSources _ _ _ _)
  exact h.setSlot (by simp [SlotAgrees, SourceState.timed, hid])

theorem State.SlotsSound.refuseSample {s : State} (h : s.SlotsSound) {i : Nat} (hi : i < 8)
    (hid : (s.source i).identifier ≠ none) : (s.refuseSample i).SlotsSound := by
  unfold State.refuseSample
  refine State.SlotsSound.of_same ?_ (State.tellConsumer_sameSources _ _ _ _)
  refine h.setSlot ?_
  obtain ⟨hd, ht, _⟩ := h.2.2 i hi
  revert hd ht
  cases hst : (s.slot i).state <;> simp [SlotAgrees, implausibleNext, SourceState.timed, hid]

theorem State.takeSample_source (f : CanFrame) (s : State) (i : Nat) :
    (State.takeSample f s i).ret.sources = s.ret.sources := by
  unfold State.takeSample State.acceptSample State.refuseSample
  split <;> exact (State.tellConsumer_sameSources _ _ _ _).2

theorem State.SlotsSound.takeSample {s : State} (h : s.SlotsSound) {f : CanFrame} {i : Nat} (hi : i < 8)
    (hid : (s.source i).identifier = some f.ident) : (State.takeSample f s i).SlotsSound := by
  unfold State.takeSample
  split
  · exact h.acceptSample (by simp [hid])
  · exact h.refuseSample hi (by simp [hid])

theorem State.SlotsSound.takeSamples {f : CanFrame} (l : List Nat) :
    ∀ s : State, s.SlotsSound → (∀ i ∈ l, i < 8 ∧ (s.source i).identifier = some f.ident) →
      (l.foldl (State.takeSample f) s).SlotsSound := by
  induction l with
  | nil => intro s h _; exact h
  | cons i l ih =>
    intro s h hl
    obtain ⟨hi, hid⟩ := hl i (by simp)
    refine ih _ (h.takeSample hi hid) (fun j hj => ?_)
    obtain ⟨hj8, hjd⟩ := hl j (by simp [hj])
    exact ⟨hj8, by simpa only [State.source, State.takeSample_source] using hjd⟩

/-- What the free value picks is in the list it picks from. -/
theorem mem_of_mem_shuffle {α : Type} {x : α} : ∀ (n choice : Nat) (l : List α), x ∈ (shuffle n choice l).1 → x ∈ l
  | 0, _, _, h => h
  | n + 1, choice, l, h => by
    unfold shuffle at h
    split at h
    · exact h
    · next y hy =>
      rcases List.mem_cons.mp h with rfl | h
      · exact List.mem_of_getElem? hy
      · exact List.mem_of_mem_eraseIdx (mem_of_mem_shuffle n _ _ h)

theorem State.mem_matching {s : State} {f : CanFrame} {i : Nat} :
    i ∈ s.matching f ↔ i < 8 ∧ (s.slot i).state ≠ .disabled ∧ (s.source i).identifier = some f.ident := by
  simp [State.matching]

theorem State.SlotsSound.frameArrives {s : State} (h : s.SlotsSound) (f : CanFrame) : (s.frameArrives f).SlotsSound := by
  refine State.SlotsSound.takeSamples _ _ (h.of_same ⟨rfl, rfl⟩) (fun i hi => ?_)
  obtain ⟨hi8, _, hid⟩ := State.mem_matching.mp (mem_of_mem_shuffle _ _ _ hi)
  exact ⟨hi8, hid⟩

/-- A slot that has run out had a timer, so it holds an identifier. -/
theorem State.SlotsSound.sourceLost {s : State} (h : s.SlotsSound) {i : Nat} (hi : i < 8)
    (ht : (s.slot i).timer.isSome) : (s.sourceLost i).SlotsSound := by
  refine State.SlotsSound.of_same ?_ (State.tellConsumer_sameSources _ _ _ _)
  refine h.setSlot ?_
  obtain ⟨hd, htimed, _⟩ := h.2.2 i hi
  have hstate : (s.slot i).state ≠ .disabled := by
    intro hdis
    simp [hdis, SourceState.timed] at htimed
    simp [htimed] at ht
  simpa [SlotAgrees, SourceState.timed] using fun hid => hstate (hd.mpr hid)

/-- A record written at an index of the table. -/
theorem State.setSource_source (s : State) (i j : Nat) (x : SourceRecord) :
    (s.setSource i x).source j = if i = j ∧ i < s.ret.sources.length then x else s.source j := by
  simp only [State.source, State.setSource, List.getD_eq_getElem?_getD, List.getElem?_set]
  by_cases hij : i = j
  · subst hij
    by_cases hi : i < s.ret.sources.length <;> simp [hi]
  · simp [hij]

theorem State.setSource_slot (s : State) (i j : Nat) (x : SourceRecord) : (s.setSource i x).slot j = s.slot j := rfl

/-- A slot that starts over agrees with its record. -/
theorem startSlot_agrees (x : SourceRecord) : SlotAgrees (startSlot x) x := by
  unfold startSlot
  split
  · next h => simp_all [SlotAgrees, SourceState.timed, Option.isSome_iff_ne_none]
  · next h => simp_all [SlotAgrees, SourceState.timed, disabledSlot]

/-- A written slot starts over, as after a reset (R9, R10, R11). -/
theorem State.writeSource_eq (s : State) (i : Nat) (x : SourceRecord) :
    s.writeSource i x =
      (((s.setSource i x).setSlot i (startSlot x)).report
        (if (s.slot i).state = .stale then [.condition (noticeSourceLost i) false] else [])).tellConsumer i
        ((startSlot x).state != (s.slot i).state) false := by
  unfold State.writeSource startSlot
  cases x.identifier <;> rfl

theorem State.SlotsSound.writeSource {s : State} (h : s.SlotsSound) (i : Nat) (x : SourceRecord) :
    (s.writeSource i x).SlotsSound := by
  rw [State.writeSource_eq]
  refine State.SlotsSound.of_same ?_ (State.tellConsumer_sameSources _ _ _ _)
  obtain ⟨hl, hr, ha⟩ := State.slotsSound_iff.mp h
  refine State.slotsSound_iff.mpr ⟨by simpa [State.setSlot] using hl, by simpa [State.setSource] using hr, fun j hj => ?_⟩
  change SlotAgrees (((s.setSource i x).setSlot i (startSlot x)).slot j) ((s.setSource i x).source j)
  rw [State.setSlot_slot, State.setSource_source, State.setSource_slot]
  by_cases hij : i = j
  · subst hij
    have hi : i < s.mbp.slots.length ∧ i < s.ret.sources.length := ⟨by omega, by omega⟩
    simpa [hi] using startSlot_agrees x
  · simpa [hij] using ha j hj

theorem State.SlotsSound.retireSource {s : State} (h : s.SlotsSound) (i : Nat) : (s.retireSource i).SlotsSound :=
  h.writeSource i _

theorem State.SlotsSound.foldl {β : Type} {f : State → β → State}
    (hf : ∀ (u : State) (b : β), u.SlotsSound → (f u b).SlotsSound)
    (l : List β) : ∀ s : State, s.SlotsSound → (l.foldl f s).SlotsSound := by
  induction l with
  | nil => exact fun _ h => h
  | cons b l ih => exact fun s h => ih _ (hf s b h)

/-! ### The requests on tables -/

theorem State.SlotsSound.putEntry {s : State} (h : s.SlotsSound) (table i : Nat) (p : List Byte) :
    (s.putEntry table i p).1.SlotsSound := by
  unfold State.putEntry
  split
  · exact h
  split
  · exact h
  split
  · exact h.of_same (s.putZone_sameSources _ _)
  · exact h.of_same (s.putSector_sameSources _ _)
  · exact h.of_same (s.putSurface_sameSources _ _)
  · exact h.of_same (s.putItem_sameSources _ _)
  · unfold State.putSource
    repeat' split
    · exact h
    · exact h
    · exact h.writeSource _ _
  · exact h.of_same (s.putMode_sameSources _ _)
  · exact h.of_same (s.putChannel_sameSources _ _)
  · exact h.of_same (s.putGeometry_sameSources _ _)
  · exact h.of_same (s.writeSetting_sameSources _ _)

theorem State.SlotsSound.retireEntry {s : State} (h : s.SlotsSound) (table i : Nat) :
    (s.retireEntry table i).1.SlotsSound := by
  unfold State.retireEntry
  split
  · exact h
  split
  · exact h.of_same (s.retireZone_sameSources _)
  · exact h.of_same (s.retireSector_sameSources _)
  · exact h.of_same (s.retireSurface_sameSources _)
  · exact h.of_same (s.retireItem_sameSources _)
  · unfold State.retireSourceEntry
    split
    · exact h
    · exact h.retireSource _
  · exact h
  · exact h.of_same (s.retireChannel_sameSources _)
  · exact h.of_same (s.retireGeometry_sameSources _)
  · exact h.of_same (s.retireSetting_sameSources _)

/-! ### Resets and CLEAR_RETAINED -/

/-- The start sets every slot from its record (R11), so the invariant needs only the table of eight records. -/
theorem State.start_slotsSound {s : State} (h : s.ret.sources.length = 8) (extra : List Report) :
    (s.start extra).SlotsSound := by
  refine State.slotsSound_iff.mpr ⟨by simpa [State.start, startMbp, Retained.evaluated] using h, h, fun i hi => ?_⟩
  have hslot : (s.start extra).slot i = startSlot ((s.start extra).source i) := by
    simp [State.slot, State.source, State.start, startMbp, Retained.evaluated, h, hi]
  rw [hslot]
  exact startSlot_agrees _

theorem State.powerUp_slotsSound {s : State} (h : s.ret.sources.length = 8) : s.powerUp.SlotsSound := by
  refine State.start_slotsSound ?_ _
  unfold State.judgeRetained
  dsimp only
  split
  · rfl
  · exact h

theorem State.clearEconomy_sameSources (s : State) : s.clearEconomy.SameSources s := by
  unfold State.clearEconomy
  refine State.SameSources.trans (t := State.judgeOil _) ⟨rfl, rfl⟩ ?_
  rw [State.judgeOil_frame, State.judgeActivity_frame, State.judgeEngine_frame]
  exact ⟨rfl, rfl⟩

theorem State.SlotsSound.settingDefault {s : State} (h : s.SlotsSound) (n : Nat) : (s.settingDefault n).SlotsSound := by
  unfold State.settingDefault
  exact h.of_same (s.applySetting_sameSources n _)

theorem State.SlotsSound.clearBus {s : State} (h : s.SlotsSound) : s.clearBus.SlotsSound := by
  unfold State.clearBus
  exact .foldl (fun u n hu => hu.settingDefault n) _ _ (.foldl (fun u i hu => hu.retireSource i) _ _ h)

theorem State.SlotsSound.clearSlew {s : State} (h : s.SlotsSound) : s.clearSlew.SlotsSound := by
  unfold State.clearSlew
  exact .foldl (fun u n hu => hu.settingDefault n) _ _ h

theorem State.SlotsSound.clearValves {s : State} (h : s.SlotsSound) : s.clearValves.SlotsSound := by
  unfold State.clearValves
  refine State.SlotsSound.of_same (s := (List.range 4).foldl State.channelDefault s) ?_ ⟨rfl, rfl⟩
  exact .foldl (fun u ch hu => hu.of_same (u.writeChannel_sameSources ch _)) _ _ h

theorem State.clearZones_sameSources (s : State) : s.clearZones.SameSources s := ⟨rfl, rfl⟩
theorem State.clearLimiter_sameSources (s : State) : s.clearLimiter.SameSources s := ⟨rfl, rfl⟩
theorem State.clearGrade_sameSources (s : State) : s.clearGrade.SameSources s := ⟨rfl, rfl⟩
theorem State.clearService_sameSources (s : State) : s.clearService.SameSources s := ⟨rfl, rfl⟩
theorem State.clearNoticeSettings_sameSources (s : State) : s.clearNoticeSettings.SameSources s := ⟨rfl, rfl⟩

theorem State.SlotsSound.clearRetained {s : State} (h : s.SlotsSound) : s.clearRetained.SlotsSound := by
  have geometry := h.clearBus.clearSlew.of_same (State.writeGeometry_sameSources _ defaultGeometry)
  have zones := geometry.of_same (State.clearZones_sameSources _)
  have limiter := zones.of_same (State.clearLimiter_sameSources _)
  have grade := limiter.of_same (State.clearGrade_sameSources _)
  have economy := grade.of_same (State.clearEconomy_sameSources _)
  have service := economy.of_same (State.clearService_sameSources _)
  exact service.clearValves.of_same (State.clearNoticeSettings_sameSources _)

/-! ### Every command -/

/-- A running timer leaves its slot's timer running when other time passes. -/
theorem State.elapse_slot {s : State} {i : Nat} (hi : i < s.mbp.slots.length) (dt : Nat) :
    (s.elapse dt).slot i = { s.slot i with timer := (s.slot i).timer.elapse dt } := by
  simp [State.slot, Mbp.elapse, List.getD_eq_getElem?_getD, hi]

theorem State.SlotsSound.exec {s t : State} (h : s.SlotsSound) (c : Instr) (ht : exec c s = .next t) :
    t.SlotsSound := by
  cases c
  all_goals simp only [Machine.exec] at ht
  case frameArrival f =>
    refine h.commit ht fun u hu => ?_
    split
    · exact hu.frameArrives f
    · exact hu
  case sourceTimeoutExpiry slot =>
    refine h.commit ht fun u hu => ?_
    cases htimer : (u.slot slot.val).timer with
    | none => exact hu
    | some left =>
      refine (hu.elapse left).sourceLost slot.isLt ?_
      rw [State.elapse_slot (by rw [hu.1]; exact slot.isLt), htimer]
      rfl
  case periodTimerExpiry b => exact h.commit ht fun u hu => hu.expire fun v hv => hv.of_same (v.periodEnds_sameSources b)
  case transmissionAttemptEnd b => exact h.commit ht fun u hu => hu.of_same (u.attemptEnds_sameSources b)
  case recoveryTimerExpiry => exact h.commit ht fun u hu => hu.expire fun v hv => hv.of_same ⟨rfl, rfl⟩
  case slewStep a b =>
    refine h.commitPins ht fun u hu => hu.of_same ?_
    split <;> exact ⟨rfl, rfl⟩
  case indexMark =>
    refine h.commitPins ht fun u hu => hu.of_same ?_
    split <;> exact ⟨rfl, rfl⟩
  case gateTimerExpiry => exact h.commit ht fun u hu => hu.expire fun v hv => hv.of_same v.gateExpires_sameSources
  case editTimerExpiry => exact h.commit ht fun u hu => hu.expire fun v hv => hv.of_same ⟨rfl, rfl⟩
  case holdTimerExpiry =>
    refine h.commit ht fun u hu => hu.expire fun v hv => hv.of_same ?_
    split <;> exact ⟨rfl, rfl⟩
  case autoIdleTimerExpiry =>
    refine h.commit ht fun u hu => hu.expire fun v hv => hv.of_same ?_
    split <;> exact ⟨rfl, rfl⟩
  case shutdownTimerLeft =>
    refine h.commit ht fun u hu => ?_
    split
    · exact hu
    split
    · exact hu
    · exact State.SlotsSound.of_same (hu.elapse _) (State.report_sameSources _ _)
  case shutdownTimerExpiry =>
    refine h.commit ht fun u hu => hu.expire fun v hv => hv.of_same ?_
    split <;> exact ⟨rfl, rfl⟩
  case shutdownWaitExpiry =>
    refine h.commit ht fun u hu => hu.expire fun v hv => hv.of_same ?_
    split <;> exact ⟨rfl, rfl⟩
  case quantumCompletion =>
    refine h.commit ht fun u hu => ?_
    split
    · exact State.SlotsSound.of_same (hu.elapse _) (State.completeQuantum_sameSources _)
    · exact hu
  case flashTimerExpiry lamp => exact h.commit ht fun u hu => hu.expire fun v hv => hv.of_same ⟨rfl, rfl⟩
  case stretchTimerExpiry lamp => exact h.commit ht fun u hu => hu.expire fun v hv => hv.of_same ⟨rfl, rfl⟩
  case rampIntervalExpiry ch l =>
    exact h.commit ht fun u hu => hu.expire fun v hv => hv.of_same (v.rampExpires_sameSources _ _)
  case overCurrent ch i =>
    refine h.commit ht fun u hu => hu.of_same ?_
    split <;> exact ⟨rfl, rfl⟩
  case supplyVoltageChange v => exact h.commitPins ht fun u hu => hu.of_same ⟨rfl, rfl⟩
  case downQualificationExpiry => exact h.commit ht fun u hu => hu.expire fun v hv => hv.of_same ⟨rfl, rfl⟩
  case upQualificationExpiry => exact h.commit ht fun u hu => hu.expire fun v hv => hv.of_same ⟨rfl, rfl⟩
  case durationTimerExpiry => exact h.commit ht fun u hu => hu.expire fun v hv => hv.of_same ⟨rfl, rfl⟩
  case serviceKeyRelease => exact h.commitPins ht fun u hu => hu.of_same ⟨rfl, rfl⟩
  case transactionStart =>
    refine h.commitPins ht fun u hu => hu.of_same ?_
    split <;> exact ⟨rfl, rfl⟩
  case transactionEnd sdi => exact h.commitPins ht fun u hu => hu.of_same ⟨rfl, rfl⟩
  case responseReady => exact h.commit ht fun u hu => hu.of_same u.prepare_sameSources
  case readEntry table i => exact h.commit ht fun u hu => hu.of_same ⟨rfl, rfl⟩
  case putEntry table i p => exact h.commit ht fun u hu => (hu.putEntry table.toNat i.toNat p).of_same ⟨rfl, rfl⟩
  case retireEntry table i => exact h.commit ht fun u hu => (hu.retireEntry table.toNat i.toNat).of_same ⟨rfl, rfl⟩
  case listTable table => exact h.commit ht fun u hu => hu.of_same ⟨rfl, rfl⟩
  case openZones => exact h.commit ht fun u hu => (hu.of_same u.openZones_sameSources).of_same ⟨rfl, rfl⟩
  case closeZones =>
    refine h.commit ht fun u hu => hu.of_same ?_
    split <;> exact ⟨rfl, rfl⟩
  case selectTarget i => exact h.commit ht fun u hu => (hu.of_same (u.selectTarget_sameSources i.toNat)).of_same ⟨rfl, rfl⟩
  case setWorkMode i =>
    refine h.commit ht fun u hu => ?_
    split
    · exact (hu.of_same (u.selectMode_sameSources i.toNat)).of_same ⟨rfl, rfl⟩
    · exact hu.of_same ⟨rfl, rfl⟩
  case serviceDone i => exact h.commit ht fun u hu => (hu.of_same (u.serviceDone_sameSources i.toNat)).of_same ⟨rfl, rfl⟩
  case ackHead => exact h.commit ht fun u hu => (hu.of_same u.ackHead_sameSources).of_same ⟨rfl, rfl⟩
  case ackNotice n => exact h.commit ht fun u hu => (hu.of_same (u.ackNotice_sameSources n.toNat)).of_same ⟨rfl, rfl⟩
  case ackAll => exact h.commit ht fun u hu => hu.of_same ⟨rfl, rfl⟩
  case readNotices => exact h.commit ht fun u hu => hu.of_same ⟨rfl, rfl⟩
  case readPose => exact h.commit ht fun u hu => hu.of_same ⟨rfl, rfl⟩
  case readGuidance => exact h.commit ht fun u hu => hu.of_same ⟨rfl, rfl⟩
  case readLimits => exact h.commit ht fun u hu => hu.of_same ⟨rfl, rfl⟩
  case readEconomy => exact h.commit ht fun u hu => hu.of_same ⟨rfl, rfl⟩
  case clearShift => exact h.commit ht fun u hu => hu.of_same ⟨rfl, rfl⟩
  case readDrive => exact h.commit ht fun u hu => hu.of_same ⟨rfl, rfl⟩
  case clearValveFault ch =>
    exact h.commit ht fun u hu => (hu.of_same (u.clearValveFault_sameSources ch.toNat)).of_same ⟨rfl, rfl⟩
  case driveTest ch c d =>
    exact h.commit ht fun u hu => (hu.of_same (u.driveTest_sameSources ch.toNat c.toNat d.toNat)).of_same ⟨rfl, rfl⟩
  case driveTestStop => exact h.commit ht fun u hu => (hu.of_same u.driveTestStop_sameSources).of_same ⟨rfl, rfl⟩
  case clearRetained =>
    refine h.commit ht fun u hu => State.SlotsSound.of_same (s := u.clearRetainedRequest.1) ?_ ⟨rfl, rfl⟩
    unfold State.clearRetainedRequest
    split
    · exact hu
    split
    · exact hu
    · exact hu.clearRetained
  case restart =>
    cases ht
    split
    · exact State.start_slotsSound h.2.1 _
    · exact h
  case resetNAsserted =>
    cases ht
    split <;> exact h.of_same ⟨rfl, rfl⟩
  case reset =>
    cases ht
    split
    · exact h.of_same ⟨rfl, rfl⟩
    · exact State.start_slotsSound h.2.1 (lossReports s.lossUnreported)
  case powerOn =>
    cases ht
    split
    · exact (State.powerUp_slotsSound h.2.1).of_same ⟨rfl, rfl⟩
    · exact State.powerUp_slotsSound h.2.1
  case powerLoss => cases ht; exact h.of_same ⟨rfl, rfl⟩
  case backupDropped =>
    cases ht
    split <;> exact h.of_same ⟨rfl, rfl⟩
  case serviceKeyAsserted => exact h.commitPins ht fun u hu => hu
  case slewZFall => exact h.commitPins ht fun u hu => hu

/-- A step keeps the invariant: a command does, and so does a tick, which runs the timers down. -/
theorem State.SlotsSound.step {s t : State} (h : s.SlotsSound) (ht : step s = .next t) : t.SlotsSound := by
  unfold Machine.step at ht
  split at ht
  · cases ht
    unfold State.idle
    split
    · exact h.elapse 1
    · exact h
  · next c rest _ =>
    exact State.SlotsSound.exec (s := { s with pending := rest }) (h.of_same ⟨rfl, rfl⟩) c ht

end Sys2Proof.Machine

open Sys2Proof.Machine in
/-- Settles O16: the commands that touch a slot or a record start the slot over or move it as R4 to R6 say, and every other
step leaves both tables as they were or lets running timers run down. -/
theorem slotTimersKept : Obligations.SlotTimersKept := fun _ _ h ht => h.step ht
end

-- ==== Proofs of sitting 1: the Demand message ====

section
/-! PROOFS. The Demand message: its period, its attempts, its recovery (01 R12 to R15). -/

namespace Sys2Proof.Machine

/-! ### A running timer's expiry as a step -/

/-- A running part lets the time a running timer has left pass, acts, and delivers what was reported. -/
theorem State.commit_expire {s : State} (h : s.phase = .running) {pick : State → Timer} {left : Nat}
    (ht : pick s = some left) (f : State → State) :
    s.commit (fun s => s.expire (pick s) f) = .next (f (s.elapse left)).deliver := by
  rw [State.commit_running h, ht, State.expire_running]

/-! ### The message and the period's judgement -/

/-- The Demand content asks for the selected mode's speed in WORKING and SETTLING only (07 R116). -/
theorem usesMode_iff (st : EconomyState) : st.usesMode = true ↔ st = .working ∨ st = .settling := by
  cases st <;> simp [EconomyState.usesMode]

theorem speedDemand_eq (r : Retained) (st : EconomyState) :
    speedDemand r st =
      if st = .working ∨ st = .settling then (r.mode r.selectedMode).speed else r.settings.idleSpeed := by
  simp only [speedDemand, usesMode_iff]

variable {s : State} {b : Bool}

/-- An attempt of the ending period's message is on the bus, and no judgement is deferred yet (R14; log entry 9). -/
abbrev State.AttemptWaits (s : State) (b : Bool) : Prop :=
  b = true ∧ s.mbp.waiting.isSome ∧ s.mbp.deferred = false

theorem State.periodEnds_waiting (h : s.AttemptWaits b) :
    s.periodEnds b =
      { s with mbp := { s.mbp.build (demandMessage s.ret s.ec s.mbp.rolling) with deferred := true } } := by
  obtain ⟨hb, hw, hd⟩ := h
  simp [State.periodEnds, hb, hw, hd]

theorem State.periodEnds_judged (h : ¬s.AttemptWaits b) :
    s.periodEnds b =
      if Config.unsentLimit ≤ s.mbp.judged then s.enterBusOff
      else { s with mbp := { s.mbp with unsent := s.mbp.judged }.build (demandMessage s.ret s.ec s.mbp.rolling) } := by
  have hguard : (b && s.mbp.waiting.isSome && !s.mbp.deferred) = false := by
    simpa [State.AttemptWaits, and_assoc] using h
  simp [State.periodEnds, hguard]

/-! ### The end of an attempt -/

theorem State.attemptEnds_deferred (h : s.mbp.deferred = true) :
    s.attemptEnds b =
      if b = true then
        ({ s with mbp := { s.mbp with deferred := false, unsent := 0 } }).report [.condition noticeDemandUnsent false]
      else if Config.unsentLimit ≤ s.mbp.unsent + 1 then s.enterBusOff
      else { s with mbp := { s.mbp with deferred := false, unsent := s.mbp.unsent + 1 } } := by
  simp [State.attemptEnds, h]

theorem State.attemptEnds_sent (h : s.mbp.deferred = false) (hw : s.mbp.waiting.isSome) :
    s.attemptEnds true =
      ({ s with mbp := { s.mbp with waiting := none, acked := true } }).report [.condition noticeDemandUnsent false] := by
  simp [State.attemptEnds, h, hw]

/-- An attempt that nothing waits for, or that fails, leaves everything as it was (R13; log entry 18). -/
theorem State.attemptEnds_idle (h : s.mbp.deferred = false) (hw : b = false ∨ s.mbp.waiting = none) :
    s.attemptEnds b = s := by
  rcases hw with rfl | hw
  · simp [State.attemptEnds, h]
  · simp [State.attemptEnds, h, hw]

/-- A report made where none was on its way is the only one. -/
theorem State.report_first (h : s.inbox = []) (rs : List Report) : s.report rs = { s with inbox := rs } := by
  simp [State.report, h]

theorem State.enterBusOff_first (h : s.inbox = []) :
    s.enterBusOff = { s with mbp := s.mbp.enterBusOff, inbox := [.condition noticeDemandUnsent true] } :=
  State.report_first (s := { s with mbp := s.mbp.enterBusOff }) h _

end Sys2Proof.Machine

open Sys2Proof Sys2Proof.Machine

/-- Settles O39: by the three outcomes of a period's end, after the time the period timer has left. -/
theorem demandPeriodJudged : Obligations.DemandPeriodJudged := by
  rintro s attempt left ⟨hrun, hin⟩ hperiod u asks m judged built waits
  have hexec : exec (.periodTimerExpiry attempt) s = .next (u.periodEnds attempt).deliver :=
    State.commit_expire (pick := fun s => s.mbp.period) hrun hperiod _
  have hm : demandMessage u.ret u.ec u.mbp.rolling = m := by
    simp [u, m, asks, demandMessage, speedDemand_eq, Ec.elapse, Mbp.elapse, beq_eq_decide]
  refine ⟨fun hw => ?_, fun hw hj => ?_, fun hw hj => ?_⟩
  · rw [hexec, State.periodEnds_waiting (s := u) hw, hm]
    exact congrArg Host.Outcome.next (State.deliver_none hin)
  · have hlimit : ¬Config.unsentLimit ≤ u.mbp.judged := Nat.not_le.mpr hj
    rw [hexec, State.periodEnds_judged (s := u) hw, hm, if_neg hlimit]
    exact congrArg Host.Outcome.next (State.deliver_none hin)
  · have hlimit : Config.unsentLimit ≤ u.mbp.judged := hj
    rw [hexec, State.periodEnds_judged (s := u) hw, if_pos hlimit, State.enterBusOff_first (s := u) hin]
    rfl

/-- Settles O40: by whether a judgement waits for the attempt, whether it was acknowledged, and how many periods went unsent. -/
theorem demandAttemptEnds : Obligations.DemandAttemptEnds := by
  rintro s ⟨hrun, hin⟩
  have hexec (b : Bool) : exec (.transmissionAttemptEnd b) s = .next (s.attemptEnds b).deliver :=
    State.commit_running hrun (fun s => s.attemptEnds b)
  refine ⟨fun hd => ?_, fun hd hu => ?_, fun hd hu => ?_, fun hd hw => ?_, fun hd => ?_, fun hd hw => ?_, fun left hr => ?_⟩
  · rw [hexec, State.attemptEnds_deferred hd, if_pos rfl, State.report_first (by exact hin)]
    rfl
  · have hlimit : ¬Config.unsentLimit ≤ s.mbp.unsent + 1 := by simp only [Config.unsentLimit]; omega
    rw [hexec, State.attemptEnds_deferred hd, if_neg (by simp), if_neg hlimit]
    exact congrArg Host.Outcome.next (State.deliver_none hin)
  · have hlimit : Config.unsentLimit ≤ s.mbp.unsent + 1 := by simp only [Config.unsentLimit]; omega
    rw [hexec, State.attemptEnds_deferred hd, if_neg (by simp), if_pos hlimit, State.enterBusOff_first hin]
    rfl
  · rw [hexec, State.attemptEnds_sent hd hw, State.report_first (by exact hin)]
    rfl
  · rw [hexec, State.attemptEnds_idle hd (.inl rfl), State.deliver_none hin]
  · rw [hexec, State.attemptEnds_idle hd (.inr hw), State.deliver_none hin]
  · exact (State.commit_expire (pick := fun s => s.mbp.recovery) hrun hr _).trans
      (congrArg Host.Outcome.next (State.deliver_none hin))
end

-- ==== Proofs of sitting 1: the order of reports ====

section
/-! PROOFS. The reports of a step (09 R146): what one does to each notice, which of them commute, and that the Notice Set after
a step does not depend on the order that the free value picks (log entry 6). -/

namespace Sys2Proof.Machine

/-! ### One report, notice by notice -/

/-- What a report makes of the notice of one catalogue number (R147 to R149). -/
def Report.act (r : Report) (n : Nat) (x : Notice) : Notice :=
  match r with
  | .condition k present => if k = n then x.onCondition (noticeHolds n) present else x
  | .cause k present => if k = n then Notice.onCause present else x
  | .retirement _ => if r.touches n then clearNotice else x

theorem Report.act_of_not_touches {r : Report} {n : Nat} (h : r.touches n = false) (x : Notice) : r.act n x = x := by
  cases r with
  | condition k p => simp_all [Report.act, Report.touches]
  | cause k p => simp_all [Report.act, Report.touches]
  | retirement i => simp [Report.act, h]

theorem noticeAt_set {ns : List Notice} {k n : Nat} {x : Notice} (hn : n < ns.length) :
    noticeAt (ns.set k x) n = if k = n then x else noticeAt ns n := by
  by_cases hk : k = n
  · subst hk; simp [noticeAt, List.getD_eq_getElem?_getD, hn]
  · simp [noticeAt, List.getD_eq_getElem?_getD, hk]

theorem noticeAt_applyReport (r : Report) {ns : List Notice} {n : Nat} (hn : n < ns.length) :
    noticeAt (applyReport r ns) n = r.act n (noticeAt ns n) := by
  cases r with
  | condition k p =>
    by_cases hk : k = n
    · subst hk; simp [applyReport, Report.act, noticeAt_set hn]
    · simp [applyReport, Report.act, noticeAt_set hn, hk]
  | cause k p =>
    by_cases hk : k = n
    · subst hk; simp [applyReport, Report.act, noticeAt_set hn]
    · simp [applyReport, Report.act, noticeAt_set hn, hk]
  | retirement i =>
    simp only [applyReport]
    rw [noticeAt_set (by simpa using hn), noticeAt_set (by simpa using hn), noticeAt_set hn]
    simp only [Report.act, Report.touches, Bool.or_eq_true, beq_iff_eq, eq_comm (a := n)]
    by_cases h1 : noticeServiceDue i = n <;> by_cases h2 : noticeServiceOverdue i = n <;> simp [h1, h2]

theorem noticesAfter_cons (r : Report) (rs : List Report) (ns : List Notice) :
    noticesAfter (r :: rs) ns = noticesAfter rs (applyReport r ns) := rfl

theorem noticesAfter_append (rs rs' : List Report) (ns : List Notice) :
    noticesAfter (rs ++ rs') ns = noticesAfter rs' (noticesAfter rs ns) := List.foldl_append

theorem noticesAfter_length (rs : List Report) (ns : List Notice) : (noticesAfter rs ns).length = ns.length := by
  induction rs generalizing ns with
  | nil => rfl
  | cons r rs ih => rw [noticesAfter_cons, ih, applyReport_length]

/-- Each notice is moved by the reports one after another. -/
theorem noticeAt_noticesAfter (rs : List Report) {ns : List Notice} {n : Nat} (hn : n < ns.length) :
    noticeAt (noticesAfter rs ns) n = rs.foldl (fun x r => r.act n x) (noticeAt ns n) := by
  induction rs generalizing ns with
  | nil => rfl
  | cons r rs ih =>
    rw [noticesAfter_cons, ih (by rwa [applyReport_length]), noticeAt_applyReport r hn]
    rfl

/-- A notice that no report concerns stands as it was. -/
theorem noticeAt_noticesAfter_untouched {rs : List Report} {n : Nat} (h : ∀ r ∈ rs, r.touches n = false)
    {ns : List Notice} (hn : n < ns.length) : noticeAt (noticesAfter rs ns) n = noticeAt ns n := by
  rw [noticeAt_noticesAfter rs hn]
  generalize noticeAt ns n = x
  induction rs with
  | nil => rfl
  | cons r rs ih =>
    rw [List.foldl_cons, Report.act_of_not_touches (h r (by simp))]
    exact ih fun r' hr' => h r' (by simp [hr'])

/-! ### Reports of different identities commute -/

theorem Report.conflicts_iff {a b : Report} : a.conflicts b = true ↔ ∃ n, a.touches n = true ∧ b.touches n = true := by
  cases a with
  | condition k p => simp [Report.conflicts, Report.touches]
  | cause k p => simp [Report.conflicts, Report.touches]
  | retirement i => simp [Report.conflicts, Report.touches, or_and_right, exists_or, or_assoc]

theorem noticesExt {ns ns' : List Notice} (hl : ns.length = ns'.length)
    (h : ∀ n, n < ns.length → noticeAt ns n = noticeAt ns' n) : ns = ns' := by
  refine List.ext_getElem hl fun n hn hn' => ?_
  simpa [noticeAt, List.getD_eq_getElem?_getD, hn, hn'] using h n hn

theorem applyReport_comm {a b : Report} (h : a.conflicts b = false) (ns : List Notice) :
    applyReport a (applyReport b ns) = applyReport b (applyReport a ns) := by
  refine noticesExt (by simp [applyReport_length]) fun n hn => ?_
  have hlen : n < ns.length := by simpa [applyReport_length] using hn
  have hstep (r r' : Report) : noticeAt (applyReport r (applyReport r' ns)) n = r.act n (r'.act n (noticeAt ns n)) := by
    rw [noticeAt_applyReport r (by rwa [applyReport_length]), noticeAt_applyReport r' hlen]
  rw [hstep, hstep]
  by_cases ha : a.touches n = true
  · have hb : b.touches n = false := by
      by_contra hb
      simp [Report.conflicts_iff.mpr ⟨n, ha, by simpa using hb⟩] at h
    simp [Report.act_of_not_touches hb]
  · simp [Report.act_of_not_touches (Bool.not_eq_true _ ▸ ha : a.touches n = false)]

theorem noticesAfter_applyReport_comm {rs : List Report} {r : Report} (h : ∀ a ∈ rs, a.conflicts r = false)
    (ns : List Notice) : noticesAfter rs (applyReport r ns) = applyReport r (noticesAfter rs ns) := by
  induction rs generalizing ns with
  | nil => rfl
  | cons a rs ih =>
    rw [noticesAfter_cons, noticesAfter_cons, applyReport_comm (h a (by simp)),
      ih fun a' ha' => h a' (by simp [ha'])]

/-! ### The free order -/

/-- What is taken first has no earlier report of a common identity. -/
theorem firstDue_spec {l : List Report} : ∀ (fuel i : Nat), i < l.length → i ≤ fuel →
    ∃ h : firstDue fuel l i < l.length,
      ∀ j (hj : j < firstDue fuel l i), (l[j]'(hj.trans h)).conflicts l[firstDue fuel l i] = false := by
  intro fuel
  induction fuel with
  | zero => intro i hi h0; exact ⟨hi, fun j hj => by simp [firstDue] at hj; omega⟩
  | succ fuel ih =>
    intro i hi hf
    unfold firstDue
    simp only [List.getElem?_eq_getElem hi]
    split
    · next hlt => exact ih _ (by omega) (by omega)
    · next hge => exact ⟨hi, fun j hj => by simpa using List.not_of_lt_findIdx (hj.trans_le (Nat.not_lt.mp hge))⟩

/-- A report that no earlier one conflicts with may be taken first. -/
theorem noticesAfter_take_first {l : List Report} {k : Nat} (hk : k < l.length)
    (h : ∀ j (hj : j < k), (l[j]'(hj.trans hk)).conflicts l[k] = false) (ns : List Notice) :
    noticesAfter (l.eraseIdx k) (applyReport l[k] ns) = noticesAfter l ns := by
  have hsplit : l = l.take k ++ l[k] :: l.drop (k + 1) := by simp
  have hbefore : ∀ a ∈ l.take k, a.conflicts l[k] = false := by
    intro a ha
    obtain ⟨j, hj, rfl⟩ := List.mem_take_iff_getElem.mp ha
    exact h j (by omega)
  calc noticesAfter (l.eraseIdx k) (applyReport l[k] ns)
      = noticesAfter (l.drop (k + 1)) (noticesAfter (l.take k) (applyReport l[k] ns)) := by
        rw [List.eraseIdx_eq_take_drop_succ, noticesAfter_append]
    _ = noticesAfter (l[k] :: l.drop (k + 1)) (noticesAfter (l.take k) ns) := by
        rw [noticesAfter_applyReport_comm hbefore, noticesAfter_cons]
    _ = noticesAfter l ns := by
        rw [← noticesAfter_append, ← hsplit]

theorem Nu.drain_notices (m : Nat) : ∀ (n choice : Nat) (inbox : List Report) (nu : Nu), inbox.length = n →
    (Nu.drain m n choice inbox nu).1.notices = noticesAfter inbox nu.notices
  | 0, _, inbox, nu, h => by rw [List.length_eq_zero_iff.mp h]; rfl
  | n + 1, choice, [], nu, h => by simp at h
  | n + 1, choice, r :: rest, nu, h => by
    obtain ⟨hk, hfirst⟩ := firstDue_spec (l := r :: rest) (r :: rest).length (choice % (r :: rest).length)
      (Nat.mod_lt _ (by simp)) (Nat.mod_lt _ (by simp)).le
    rw [Nu.drain, Nu.drain_notices m n _ _ _ (by rw [List.length_eraseIdx_of_lt hk, h]; rfl),
      ← noticesAfter_take_first hk hfirst]
    simp only [List.getD_eq_getElem?_getD, List.getElem?_eq_getElem hk, Option.getD_some]
    rfl

/-- The Notice Set after a step is the one after its reports, in the order in which they were made. -/
theorem State.deliver_notices (s : State) : s.deliver.nu.notices = noticesAfter s.inbox s.nu.notices :=
  Nu.drain_notices _ _ _ _ _ rfl

end Sys2Proof.Machine
end

-- ==== Proofs of sitting 1: a frame and a crowded item table ====

section
/-! PROOFS. O37 bounds every table that a frame reaches but the Service Item Table. With more than its 24 entries the catalogue
numbers of items run into those of slots: the CRITICAL notice of an item 29 would be 8 + 29 = 37, SOURCE_LOST of slot 0. -/

namespace Sys2Proof.Machine

/-- The frame of the counterexample: a sample 0 for the identifier 5. -/
def zeroFrame : CanFrame :=
  { extended := true, remote := false, own := false, ident := 5, dlc := 8, data := List.replicate 8 0 }

/-- An item that the next dig cycle makes CRITICAL. -/
def dueNow : Item :=
  { state := .counting, basis := .digCycles, interval := 1, lead := 0, grace := 0, stamp := none, cycles := some 0,
    timesDone := 0, derate := none, tag := 0 }

/-- A level machine with a high boom foot, so that its tip stands above the dump level. -/
def highDims : Dims := { fr := 0, fz := 10000, lb := 1000, ls := 500, lk := 300, ob := 0, os := 0, ok := 0 }

/-- Slot 0 is STALE and the other links are FRESH, the detector waits for a dump, and an item stands at index 29. -/
def crowdedItems : State :=
  { State.reset with
    ret := { defaultRetained with
      sources := defaultSources.set 0 { sourceDefault 0 65535 with identifier := some 5 }
      geometry := { defaultGeometry with dims := some highDims }
      items := List.replicate 29 none ++ [some dueNow] }
    mbp := { State.reset.mbp with slots := State.reset.mbp.slots.set 0 { disabledSlot with state := .stale } }
    pu := { State.reset.pu with links := [.stale, .fresh, .fresh], detector := .waitDump } }

theorem crowdedItems_ready : crowdedItems.Ready := ⟨rfl, rfl⟩

theorem crowdedItems_slotsSound : crowdedItems.SlotsSound := by decide

/-- The accepted sample completes a dig cycle, which raises notice 37 for item 29 after it was cleared for slot 0. -/
theorem crowdedItems_notice :
    noticeAt (noticesAfter (crowdedItems.frameArrives zeroFrame).inbox (crowdedItems.frameArrives zeroFrame).nu.notices) 37 =
      ⟨.raised, true⟩ := by
  decide +kernel

theorem exec_frameArrival {s : State} (hrun : s.phase = .running) {f : CanFrame}
    (hf : f.extended = true ∧ f.remote = false ∧ f.own = false) :
    exec (.frameArrival f) s = .next (s.frameArrives f).deliver := by
  obtain ⟨he, hr, ho⟩ := hf
  refine (State.commit_running hrun (fun s => if f.extended && !f.remote && !f.own then s.frameArrives f else s)).trans ?_
  simp only [he, hr, ho, Bool.not_false, Bool.and_self, if_true]

end Sys2Proof.Machine

open Sys2Proof Sys2Proof.Machine

/-- Refutes O37: in a state whose item table holds an item at index 29, a sample that slot 0 accepts in STALE does not leave
notice 37 CLEAR, since the dig cycle of the pose it publishes makes that item CRITICAL. -/
theorem not_frameSamplesSlots : ¬ Obligations.FrameSamplesSlots := by
  intro h
  obtain ⟨t, ht, _, hslots⟩ := (h zeroFrame crowdedItems crowdedItems_ready crowdedItems_slotsSound (by decide) (by decide)
    (by decide)).2 rfl rfl rfl
  obtain ⟨_, haccepted, _⟩ := hslots 0 (by decide)
  obtain ⟨_, hcleared, _⟩ := haccepted rfl (by decide)
  have hnotices : t.nu.notices = noticesAfter (crowdedItems.frameArrives zeroFrame).inbox
      (crowdedItems.frameArrives zeroFrame).nu.notices := by
    rw [exec_frameArrival rfl ⟨rfl, rfl, rfl⟩] at ht
    cases ht
    exact State.deliver_notices _
  have hclear := hcleared rfl
  rw [hnotices, crowdedItems_notice] at hclear
  cases hclear
end

-- ==== Proofs of sitting 1: resets and power ====

section
/-! PROOFS. The start of the part (11 R185): the Notice Unit after the starting reports (09 R159), and what each reset, power
command and CLEAR_RETAINED leaves (R183, R184, R186). -/

namespace Sys2Proof.Machine

/-! ### Reports as the statements list them -/

theorem limitReports_eq (r : LimitRecord) : limitReports r = limitConditions r := by
  simp [limitReports, limitConditions, noticeSlewBlocked, noticeSlewSlowed, noticeZoneWarn, beq_eq_decide]

theorem floorReports_eq (f : FloorRecord) : floorReports f = floorConditions f := by
  simp [floorReports, floorConditions, noticeFloorReached, noticeFloorUnavailable, noticeFloorNear, beq_eq_decide]

theorem itemReports_eq (i : Nat) (before after : Option ItemState) :
    itemReports i before after = itemConditions i before after := by
  unfold itemReports itemConditions
  simp only [noticeServiceCritical, noticeServiceOverdue, noticeServiceDue, beq_eq_decide]
  by_cases hb : before = some .critical <;> by_cases ha : after = some .critical <;> simp [hb, ha]

theorem startReports_eq (r : Retained) :
    startReports r =
      [.condition 35 true] ++ limitConditions (startSlm r).record ++ floorConditions startFloor ++
        [.condition 36 (decide (r.geometry.dims = none))] ++
        (List.range r.items.length).flatMap (fun i => itemConditions i none ((r.item i).map Item.state)) ++
        [.condition 1 true] := by
  have hitems : startItemReports r.items =
      (List.range r.items.length).flatMap (fun i => itemConditions i none ((r.item i).map Item.state)) := by
    simp only [startItemReports, itemReports_eq, stateOf, Retained.item]
  have hdims : r.geometry.dims.isNone = decide (r.geometry.dims = none) := by
    cases r.geometry.dims <;> rfl
  rw [startReports, limitReports_eq, floorReports_eq, hitems, hdims]
  rfl

/-! ### Notices that stay RAISED -/

/-- Whether a report leaves a RAISED notice it concerns RAISED: a cause, or a condition that is present. -/
def Report.presents : Report → Bool
  | .condition _ present => present
  | .cause _ _ => true
  | .retirement _ => false

/-- No report acknowledges (R153 alone does). -/
theorem Report.act_not_acked (r : Report) (n : Nat) {x : Notice} (h : x.state ≠ .acked) : (r.act n x).state ≠ .acked := by
  cases r with
  | condition k p =>
    simp only [Report.act, Notice.onCondition]
    split_ifs <;> simp_all
  | cause k p =>
    simp only [Report.act, Notice.onCause]
    split_ifs <;> simp_all
  | retirement i =>
    simp only [Report.act, clearNotice]
    split_ifs <;> simp_all

theorem foldl_act_not_acked (rs : List Report) (n : Nat) {x : Notice} (h : x.state ≠ .acked) :
    (rs.foldl (fun x r => r.act n x) x).state ≠ .acked := by
  induction rs generalizing x with
  | nil => exact h
  | cons r rs ih => exact ih (r.act_not_acked n h)

theorem Report.act_raised {r : Report} {n : Nat} (h : r.touches n = false ∨ r.presents = true) {x : Notice}
    (hx : x.state = .raised) : (r.act n x).state = .raised := by
  rcases h with h | h
  · rwa [Report.act_of_not_touches h]
  · cases r with
    | condition k p =>
      obtain rfl : p = true := h
      simp only [Report.act, Notice.onCondition]
      split_ifs <;> simp_all
    | cause k p =>
      simp only [Report.act, Notice.onCause]
      split_ifs <;> simp_all
    | retirement i => cases h

theorem foldl_act_raised {rs : List Report} {n : Nat} (h : ∀ r ∈ rs, r.touches n = false ∨ r.presents = true) {x : Notice}
    (hx : x.state = .raised) : (rs.foldl (fun x r => r.act n x) x).state = .raised := by
  induction rs generalizing x with
  | nil => exact hx
  | cons r rs ih => exact ih (fun r' hr' => h r' (by simp [hr'])) (Report.act_raised (h r (by simp)) hx)

theorem noticeAt_replicate_clear (k n : Nat) : noticeAt (List.replicate k clearNotice) n = clearNotice := by
  simp only [noticeAt, List.getD_eq_getElem?_getD, List.getElem?_replicate]
  split <;> rfl

/-- The condition of a FOLLOW notice that is not ACKED, once present, leaves the notice RAISED through reports that clear
nothing. -/
theorem isRaised_of_condition {before after : List Report} {n : Nat} (hn : n < noticeCount) (hfollow : noticeHolds n = false)
    (h : ∀ r ∈ after, r.touches n = false ∨ r.presents = true) :
    isRaised (noticesAfter (before ++ [.condition n true] ++ after) (List.replicate 110 clearNotice)) n = true := by
  have hlen : n < (List.replicate 110 clearNotice).length := by simpa [noticeCount] using hn
  have hbefore := foldl_act_not_acked before n (x := noticeAt (List.replicate 110 clearNotice) n)
    (by rw [noticeAt_replicate_clear]; decide)
  rw [isRaised, noticeAt_noticesAfter _ hlen, List.foldl_append, List.foldl_append, beq_iff_eq]
  refine foldl_act_raised h ?_
  generalize before.foldl _ _ = x at hbefore
  rw [List.foldl_cons, List.foldl_nil, Report.act, if_pos rfl, hfollow]
  cases hx : x.state <;> simp_all [Notice.onCondition]

/-- A starting item has no condition that ends. -/
theorem itemConditions_none_presents {i : Nat} {after : Option ItemState} {r : Report} (h : r ∈ itemConditions i none after) :
    r.presents = true := by
  rw [itemConditions] at h
  rcases after with _ | ⟨_ | _ | _ | _⟩ <;> simp at h <;> simp [h, Report.presents]

theorem anyRaised_of {ns : List Notice} {n : Nat} {v : Severity} (hn : n < noticeCount) (hr : isRaised ns n = true)
    (hv : noticeSeverity n = v) : anyRaised ns v = true := by
  rw [anyRaised, List.any_eq_true]
  exact ⟨n, mem_raisedNumbers.mpr ⟨hn, hr⟩, by simp [hv]⟩

/-! ### The Notice Unit after a start -/

/-- A lamp that flashes since a notice of its severity was RAISED stands at the start of its first lit phase, no time having
passed. -/
structure FreshLamp (ns : List Notice) (v : Severity) (l : LampState) : Prop where
  lit : l.mode = .flashing → l = State.resetLamp
  flashing : anyRaised ns v = true → l.mode = .flashing

theorem FreshLamp.of_dark {ns : List Notice} {v : Severity} {l : LampState} (hr : anyRaised ns v ≠ true)
    (hl : l.mode = .flashing → l = State.resetLamp) : FreshLamp ns v l :=
  ⟨hl, fun h => absurd h hr⟩

theorem FreshLamp.next {ns ns' : List Notice} {v : Severity} {l : LampState} (h : FreshLamp ns v l) (acked : Bool) (m : Nat) :
    FreshLamp ns' v (l.next (anyRaised ns' v) acked m) := by
  unfold LampState.next
  split
  · split
    · next hmode => exact ⟨h.lit, fun _ => hmode⟩
    · exact ⟨fun _ => rfl, fun _ => rfl⟩
  · next hr =>
    refine .of_dark hr ?_
    split
    · nofun
    · split
      · exact h.lit
      · exact h.lit
      · split <;> nofun

/-- What the start of the Notice Unit keeps through every report: the list in order, the change flag, both lamps. -/
structure Nu.Starting (nu : Nu) : Prop where
  sound : nu.Sound
  changed : nu.changed = true
  red : FreshLamp nu.notices .red nu.red
  amber : FreshLamp nu.notices .amber nu.amber

theorem startNu_starting : startNu.Starting where
  sound := by decide +kernel
  changed := rfl
  red := ⟨fun h => (by cases h), fun h => absurd h (by decide +kernel)⟩
  amber := ⟨fun h => (by cases h), fun h => absurd h (by decide +kernel)⟩

theorem Nu.Starting.take {nu : Nu} (h : nu.Starting) (m : Nat) (r : Report) : (nu.take m r).Starting where
  sound := Nu.settle_sound h.sound (by rw [applyReport_length]; exact h.sound.1)
  changed := by simp [Nu.take, Nu.settle, h.changed]
  red := h.red.next _ _
  amber := h.amber.next _ _

theorem State.start_nu (s : State) (extra : List Report) :
    (s.start extra).nu.Starting ∧
      (s.start extra).nu.notices = noticesAfter (startReports s.ret.evaluated ++ extra) (List.replicate 110 clearNotice) := by
  refine ⟨?_, State.deliver_notices _⟩
  unfold State.start
  exact State.deliver_keeps (fun r nu h => h.take _ r) startNu_starting

/-- Both lamps flash after a start: SLEW_UNREFERENCED 35 and SUPPLY_LOW 1 are present in every one (R32, R174). -/
theorem State.start_lamps (s : State) {extra : List Report} (h : ∀ r ∈ extra, r.touches 1 = false ∧ r.touches 35 = false) :
    (s.start extra).nu.red = State.resetLamp ∧ (s.start extra).nu.amber = State.resetLamp := by
  obtain ⟨hstart, hnotices⟩ := s.start_nu extra
  have hitems : ∀ r ∈ (List.range s.ret.evaluated.items.length).flatMap
      (fun i => itemConditions i none ((s.ret.evaluated.item i).map Item.state)), r.presents = true := by
    intro r hr
    obtain ⟨i, _, hi⟩ := List.mem_flatMap.mp hr
    exact itemConditions_none_presents hi
  have h1 : isRaised (s.start extra).nu.notices 1 = true := by
    rw [hnotices, startReports_eq]
    exact isRaised_of_condition (by decide) rfl fun r hr => .inl (h r hr).1
  have h35 : isRaised (s.start extra).nu.notices 35 = true := by
    rw [hnotices, startReports_eq]
    simp only [List.append_assoc]
    refine isRaised_of_condition (before := []) (by decide) rfl fun r hr => ?_
    simp only [List.mem_append] at hr
    rcases hr with hr | hr | hr | hr | hr | hr
    · simp only [limitConditions, List.mem_cons, List.not_mem_nil, or_false] at hr
      rcases hr with rfl | rfl | rfl <;> exact .inl rfl
    · simp only [floorConditions, List.mem_cons, List.not_mem_nil, or_false] at hr
      rcases hr with rfl | rfl | rfl <;> exact .inl rfl
    · rw [List.mem_singleton.mp hr]; exact .inl rfl
    · exact .inr (hitems r hr)
    · rw [List.mem_singleton.mp hr]; exact .inl rfl
    · exact .inl (h r hr).2
  exact ⟨hstart.red.lit (hstart.red.flashing (anyRaised_of (by decide) h1 rfl)),
    hstart.amber.lit (hstart.amber.flashing (anyRaised_of (by decide) h35 rfl))⟩

/-! ### The blocks after a start -/

theorem startMbp_eq (r : Retained) :
    startMbp r =
      { slots := r.sources.map startSlot, busOff := false, rolling := 0, unsent := 0, built := false, acked := false
        deferred := false, waiting := none, recovery := none
        period := if r.settings.demandEnable = true ∧ r.settings.demandId.isSome = true then some 50 else none } := by
  simp [startMbp, demandEnabled, Config.demandPeriod]

theorem Retained.evaluated_itemsSound (r : Retained) : r.evaluated.ItemsSound := by
  intro e he it hit
  obtain ⟨e', _, rfl⟩ := List.mem_map.mp he
  obtain ⟨it', _, rfl⟩ := Option.mem_map.mp hit
  rfl

/-! ### CLEAR_RETAINED: what it writes -/

/-- The retained contents apart from the items and the Shift Summary, which a slot's consumer may still move while the other
owners take their defaults. -/
def Retained.apart (r : Retained) : Retained := { r with items := [], shift := zeroShift }

theorem State.retireSource_apart (s : State) (i : Nat) :
    (s.retireSource i).ret.apart =
      { s.ret with sources := s.ret.sources.set i (defaultSources.getD i (sourceDefault 0 0)) }.apart := by
  unfold State.retireSource
  rw [State.writeSource_eq, State.tellConsumer_frame]
  rfl

theorem State.retireSources_apart (l : List Nat) (s : State) :
    (l.foldl State.retireSource s).ret.apart =
      { s.ret with
        sources := l.foldl (fun xs i => xs.set i (defaultSources.getD i (sourceDefault 0 0))) s.ret.sources }.apart := by
  induction l generalizing s with
  | nil => rfl
  | cons i l ih =>
    have hi := s.retireSource_apart i
    have hsources : (s.retireSource i).ret.sources = s.ret.sources.set i (defaultSources.getD i (sourceDefault 0 0)) :=
      congrArg Retained.sources hi
    calc ((i :: l).foldl State.retireSource s).ret.apart
        = { (s.retireSource i).ret.apart with
            sources := l.foldl (fun xs i => xs.set i (defaultSources.getD i (sourceDefault 0 0)))
              (s.retireSource i).ret.sources } := ih _
      _ = _ := by rw [hi, hsources]; rfl

/-- Eight writes in ascending order replace a table of eight. -/
theorem setEight_eq {α : Type} {xs ys : List α} (d : α) (hx : xs.length = 8) (hy : ys.length = 8) :
    (List.range 8).foldl (fun xs i => xs.set i (ys.getD i d)) xs = ys := by
  refine List.ext_getElem ?_ ?_
  all_goals simp [List.range_succ, hx, hy]
  intro n hn
  interval_cases n <;> simp

theorem State.settingDefault_ret (s : State) (n : Nat) :
    (s.settingDefault n).ret =
      { s.ret with settings := s.ret.settings.written ((defaultSettings.get n).getD 0) n } := by
  unfold State.settingDefault
  exact s.applySetting_ret _ _

theorem Settings.written_busDefaults (x : Settings) :
    ((x.written 250 0).written (absentMarkInt 4) 1).written 0 2 =
      { x with canBitRate := 250, demandId := none, demandEnable := false } := rfl

theorem Settings.written_slewDefaults (x : Settings) :
    ((((x.written 36000 3).written 0 4).written 50 5).written 1365 6).written 45 7 =
      { x with cpr := 36000, indexPos := 0, slipTol := 50, minSwing := 1365, still := 45 } := rfl

theorem State.settingDefaults_ret (l : List Nat) (s : State) :
    (l.foldl State.settingDefault s).ret =
      { s.ret with
        settings := l.foldl (fun x n => x.written ((defaultSettings.get n).getD 0) n) s.ret.settings } := by
  induction l generalizing s with
  | nil => rfl
  | cons n l ih => rw [List.foldl_cons, ih, State.settingDefault_ret]; rfl

theorem State.clearBus_ret (s : State) :
    s.clearBus.ret =
      { ((List.range 8).foldl State.retireSource s).ret with
        settings := { ((List.range 8).foldl State.retireSource s).ret.settings with
          canBitRate := 250, demandId := none, demandEnable := false } } := by
  unfold State.clearBus
  rw [State.settingDefaults_ret]
  generalize ((List.range 8).foldl State.retireSource s).ret = r
  exact congrArg (fun x => { r with settings := x }) r.settings.written_busDefaults

theorem State.clearSlew_ret (s : State) :
    s.clearSlew.ret =
      { s.ret with
        settings := { s.ret.settings with cpr := 36000, indexPos := 0, slipTol := 50, minSwing := 1365, still := 45 } } := by
  unfold State.clearSlew
  rw [State.settingDefaults_ret]
  exact congrArg (fun x => { s.ret with settings := x }) s.ret.settings.written_slewDefaults

theorem State.clearSlew_clearBus_apart {s : State} (h : s.ret.sources.length = 8) :
    s.clearBus.clearSlew.ret.apart =
      { s.ret.apart with
        sources := defaultSources
        settings := { s.ret.settings with
          canBitRate := 250, demandId := none, demandEnable := false, cpr := 36000, indexPos := 0, slipTol := 50
          minSwing := 1365, still := 45 } } := by
  have hslots := State.retireSources_apart (List.range 8) s
  rw [setEight_eq _ h rfl] at hslots
  rw [State.clearSlew_ret, State.clearBus_ret]
  generalize ((List.range 8).foldl State.retireSource s).ret = r at hslots
  have hsettings : r.settings = s.ret.settings := (congrArg Retained.settings hslots : r.apart.settings = _)
  calc _ = { r.apart with settings := { r.settings with
              canBitRate := 250, demandId := none, demandEnable := false, cpr := 36000, indexPos := 0, slipTol := 50
              minSwing := 1365, still := 45 } } := rfl
    _ = _ := by rw [hslots, hsettings]; rfl

theorem State.writeGeometry_apart (s : State) (g : Geometry) :
    (s.writeGeometry g).ret.apart = { s.ret.apart with geometry := g } := by
  unfold State.writeGeometry
  rw [State.recompute_frame]
  rfl

theorem State.clearEconomy_ret (s : State) :
    s.clearEconomy.ret =
      { s.ret with
        modes := defaultModes, selectedMode := defaultMode, shift := zeroShift
        settings := s.ret.settings.economyDefaults } := by
  unfold State.clearEconomy
  rw [State.workOutTorque_ret, State.judgeOil_frame, State.judgeActivity_frame, State.judgeEngine_frame]

theorem State.writeChannel_ret (s : State) (ch : Nat) (c : ChannelConfig) :
    (s.writeChannel ch c).ret = { s.ret with configs := s.ret.configs.set ch c } := by
  unfold State.writeChannel
  rw [State.handBack_frame]

theorem State.clearValves_ret {s : State} (h : s.ret.configs.length = 4) :
    s.clearValves.ret =
      { s.ret with
        configs := defaultConfigs
        settings := { s.ret.settings with supplyDown := 180, supplyUp := 190 } } := by
  have hchannels : ((List.range 4).foldl State.channelDefault s).ret = { s.ret with configs := defaultConfigs } := by
    simp only [List.range_succ, List.range_zero, List.nil_append, List.cons_append, List.foldl_cons, List.foldl_nil,
      State.channelDefault, State.writeChannel_ret]
    match hc : s.ret.configs, h with
    | [_, _, _, _], _ => rfl
  unfold State.clearValves
  rw [State.judgeSupply_ret, State.setSettings_ret, hchannels]
  rfl

/-- The retained contents once the owners behind the Pose Unit have taken their defaults (log entry 8). -/
def Retained.laterDefaults (r : Retained) : Retained :=
  { defaultRetained with
    sources := r.sources, geometry := r.geometry, engineMeter := r.engineMeter, weightedMeter := r.weightedMeter
    settings := { defaultSettings with
      canBitRate := r.settings.canBitRate, demandId := r.settings.demandId, demandEnable := r.settings.demandEnable
      cpr := r.settings.cpr, indexPos := r.settings.indexPos, slipTol := r.settings.slipTol
      minSwing := r.settings.minSwing, still := r.settings.still } }

theorem State.clearService_ret (s : State) : s.clearService.ret = { s.ret with items := List.replicate 24 none } := rfl

theorem State.clearLater_ret {g : State} (h : g.ret.configs.length = 4) :
    g.clearZones.clearLimiter.clearGrade.clearEconomy.clearService.clearValves.clearNoticeSettings.ret =
      g.ret.laterDefaults := by
  have hservice : g.clearZones.clearLimiter.clearGrade.clearEconomy.clearService.ret =
      { g.clearZones.clearLimiter.clearGrade.ret with
        modes := defaultModes, selectedMode := defaultMode, shift := zeroShift, items := List.replicate 24 none
        settings := g.clearZones.clearLimiter.clearGrade.ret.settings.economyDefaults } := by
    rw [State.clearService_ret, State.clearEconomy_ret]
  have hvalves := State.clearValves_ret (s := g.clearZones.clearLimiter.clearGrade.clearEconomy.clearService)
    (by rw [hservice]; exact h)
  unfold State.clearNoticeSettings
  rw [State.setSettings_ret, hvalves, hservice]
  rfl

theorem State.clearRetained_ret {s : State} (hs : s.ret.sources.length = 8) (hc : s.ret.configs.length = 4) :
    s.clearRetained.ret =
      { defaultRetained with engineMeter := s.ret.engineMeter, weightedMeter := s.ret.weightedMeter } := by
  have hgeometry := s.clearBus.clearSlew.writeGeometry_apart defaultGeometry
  rw [State.clearSlew_clearBus_apart hs] at hgeometry
  unfold State.clearRetained
  generalize s.clearBus.clearSlew.writeGeometry defaultGeometry = g at hgeometry
  have hconfigs : g.ret.configs = s.ret.configs := (congrArg Retained.configs hgeometry : g.ret.apart.configs = _)
  rw [State.clearLater_ret (hconfigs ▸ hc)]
  exact congrArg Retained.laterDefaults hgeometry

end Sys2Proof.Machine
end

-- ==== Proofs of sitting 1: CLEAR_RETAINED and notice 0 ====

section
/-! PROOFS. CLEAR_RETAINED leaves notice 0, the table's mode and the link alone (11 R186), and O60. -/

namespace Sys2Proof.Machine

/-! ### Operations that say nothing of notice 0 -/

/-- From one state to another the Notice Unit, the link, the table's mode and its edit timer stand, and no report concerns
RETAINED_LOST. -/
structure State.Quiet (t s : State) : Prop where
  nu : t.nu = s.nu
  link : t.link = s.link
  isOpen : t.zt.isOpen = s.zt.isOpen
  edit : t.zt.edit = s.zt.edit
  inbox : ∀ r ∈ t.inbox, r ∈ s.inbox ∨ r.touches noticeRetainedLost = false

theorem State.Quiet.trans {u t s : State} (h : u.Quiet t) (h' : t.Quiet s) : u.Quiet s where
  nu := h.nu.trans h'.nu
  link := h.link.trans h'.link
  isOpen := h.isOpen.trans h'.isOpen
  edit := h.edit.trans h'.edit
  inbox r hr := (h.inbox r hr).elim (h'.inbox r) .inr

/-- A silent operation: it makes no report at all. -/
theorem State.Quiet.silent {t s : State} (hnu : t.nu = s.nu) (hlink : t.link = s.link) (hopen : t.zt.isOpen = s.zt.isOpen)
    (hedit : t.zt.edit = s.zt.edit) (hinbox : t.inbox = s.inbox) : t.Quiet s :=
  ⟨hnu, hlink, hopen, hedit, fun _ hr => .inl (hinbox ▸ hr)⟩

/-- An operation that adds reports of other notices. -/
theorem State.Quiet.adds {t s : State} (hnu : t.nu = s.nu) (hlink : t.link = s.link) (hopen : t.zt.isOpen = s.zt.isOpen)
    (hedit : t.zt.edit = s.zt.edit) {rs : List Report} (hinbox : t.inbox = s.inbox ++ rs)
    (hrs : ∀ r ∈ rs, r.touches noticeRetainedLost = false) : t.Quiet s :=
  ⟨hnu, hlink, hopen, hedit, fun r hr => (List.mem_append.mp (hinbox ▸ hr)).imp_right (hrs r)⟩

theorem State.Quiet.refl (s : State) : s.Quiet s := .silent rfl rfl rfl rfl rfl

section
variable (s : State)

theorem State.report_quiet {rs : List Report} (h : ∀ r ∈ rs, r.touches noticeRetainedLost = false) :
    (s.report rs).Quiet s := .adds rfl rfl rfl rfl rfl h

theorem State.evaluateLimits_quiet : s.evaluateLimits.Quiet s :=
  .adds rfl rfl rfl rfl rfl
    (by simp [limitReports, Report.touches, noticeRetainedLost, noticeSlewBlocked, noticeSlewSlowed, noticeZoneWarn])

theorem State.setFloor_quiet (f : FloorRecord) (hold : Timer) : (s.setFloor f hold).Quiet s :=
  .adds rfl rfl rfl rfl rfl
    (by simp [floorReports, Report.touches, noticeRetainedLost, noticeFloorReached, noticeFloorUnavailable, noticeFloorNear])

theorem State.evaluateGrade_quiet : s.evaluateGrade.Quiet s :=
  (State.setFloor_quiet _ _ _).trans (.silent rfl rfl rfl rfl rfl)

theorem State.workOutTorque_quiet : s.workOutTorque.Quiet s := .silent rfl rfl rfl rfl rfl

theorem itemReports_touches {i : Nat} {before after : Option ItemState} {r : Report} (h : r ∈ itemReports i before after) :
    r.touches noticeRetainedLost = false := by
  unfold itemReports at h
  simp only [List.mem_append] at h
  rcases h with (h | h) | h
  all_goals
    split_ifs at h
    all_goals simp_all [Report.touches, noticeServiceCritical, noticeServiceOverdue, noticeServiceDue, noticeRetainedLost]

theorem State.derateReport_quiet (b : Bool) : (s.derateReport b).Quiet s := by
  cases b
  · exact .refl s
  · exact s.workOutTorque_quiet

theorem State.serviceEvent_quiet (p : ServiceBasis → Bool) (f : Item → Item) : (s.serviceEvent p f).Quiet s := by
  unfold State.serviceEvent
  refine (State.derateReport_quiet _ _).trans ((State.report_quiet _ fun r hr => ?_).trans (.silent rfl rfl rfl rfl rfl))
  obtain ⟨i, _, hi⟩ := List.mem_flatMap.mp hr
  exact itemReports_touches hi

theorem State.recompute_quiet : s.recompute.Quiet s := by
  have hpose : (((s.publish s.nextPose).evaluateLimits).evaluateGrade).Quiet s :=
    (State.evaluateGrade_quiet _).trans ((State.evaluateLimits_quiet _).trans (.silent rfl rfl rfl rfl rfl))
  unfold State.recompute
  dsimp only
  split
  · exact (State.serviceEvent_quiet _ _ _).trans hpose
  · exact hpose

theorem State.ecoMove_quiet (st : EconomyState) (a b c : Timer) : (s.ecoMove st a b c).Quiet s :=
  (State.workOutTorque_quiet _).trans ((State.report_quiet _ (by
    simp [Report.touches, noticeRetainedLost, noticeAutoIdle, noticeShutdownPending])).trans (.silent rfl rfl rfl rfl rfl))

theorem State.enterWorking_quiet : s.enterWorking.Quiet s := by
  unfold State.enterWorking
  split <;> exact s.ecoMove_quiet _ _ _ _

theorem State.judgeEngine_quiet : s.judgeEngine.Quiet s := by
  unfold State.judgeEngine
  split
  · split
    · exact s.enterWorking_quiet
    · exact .refl s
  · split
    · exact .refl s
    · exact s.ecoMove_quiet _ _ _ _
  · exact .refl s

theorem State.activityBegins_quiet : s.activityBegins.Quiet s := by
  unfold State.activityBegins
  split
  · exact s.ecoMove_quiet _ _ _ _
  · exact s.ecoMove_quiet _ _ _ _
  · exact .refl s

theorem State.activityEnds_quiet : s.activityEnds.Quiet s := by
  unfold State.activityEnds
  split
  · split
    · exact .refl s
    · exact s.ecoMove_quiet _ _ _ _
  · exact .refl s

theorem State.judgeActivity_quiet : s.judgeActivity.Quiet s := by
  unfold State.judgeActivity
  dsimp only
  split
  · exact (State.activityBegins_quiet _).trans (.silent rfl rfl rfl rfl rfl)
  · exact (State.activityEnds_quiet _).trans (.silent rfl rfl rfl rfl rfl)
  · exact .silent rfl rfl rfl rfl rfl

theorem State.judgeOil_quiet : s.judgeOil.Quiet s := by
  unfold State.judgeOil
  dsimp only
  split
  · exact .refl s
  · exact (State.workOutTorque_quiet _).trans ((State.report_quiet _ (by
      simp [Report.touches, noticeRetainedLost, noticeOilHotDerate])).trans (.silent rfl rfl rfl rfl rfl))

theorem State.ecSource_quiet (i : Nat) (x : SourceSlot) (accepted : Bool) : (s.ecSource i x accepted).Quiet s := by
  have hcopy : ({ s with ec := { s.ec with copies := s.ec.copies.set (i - 3) ⟨x.state, x.lastGood⟩ } } : State).Quiet s :=
    .silent rfl rfl rfl rfl rfl
  unfold State.ecSource
  dsimp only
  split
  · split
    · rw [State.pumpSample_frame]; exact .silent rfl rfl rfl rfl rfl
    · exact hcopy
  · exact (State.judgeEngine_quiet _).trans hcopy
  · split
    · rw [State.fuelSample_frame]; exact .silent rfl rfl rfl rfl rfl
    · rw [State.fuelState_frame]; exact .silent rfl rfl rfl rfl rfl
  · exact (State.judgeOil_quiet _).trans hcopy
  · exact (State.judgeActivity_quiet _).trans hcopy
  · exact hcopy

theorem State.tellConsumer_quiet (i : Nat) (changed accepted : Bool) : (s.tellConsumer i changed accepted).Quiet s := by
  unfold State.tellConsumer
  split
  · split
    · exact (State.recompute_quiet _).trans (.silent rfl rfl rfl rfl rfl)
    · exact .refl s
  · split
    · exact s.ecSource_quiet _ _ _
    · exact .refl s

theorem State.retireSource_quiet (i : Nat) : (s.retireSource i).Quiet s := by
  unfold State.retireSource
  rw [State.writeSource_eq]
  refine (State.tellConsumer_quiet _ _ _ _).trans ((State.report_quiet _ ?_).trans (.silent rfl rfl rfl rfl rfl))
  split
  · simp [Report.touches, noticeRetainedLost, noticeSourceLost]
  · simp

/-! ### Settings -/

theorem State.enterBusOff_quiet : s.enterBusOff.Quiet s :=
  (State.report_quiet _ (by simp [Report.touches, noticeRetainedLost, noticeDemandUnsent])).trans
    (.silent rfl rfl rfl rfl rfl)

theorem State.busRejoined_quiet : s.busRejoined.Quiet s := by
  unfold State.busRejoined
  split
  · next hd =>
    rw [State.attemptEnds_deferred hd, if_neg (by decide)]
    split
    · exact s.enterBusOff_quiet
    · exact .silent rfl rfl rfl rfl rfl
  · exact .refl s

theorem State.demandWritten_quiet (before : Bool) : (s.demandWritten before).Quiet s := by
  unfold State.demandWritten
  split
  · exact (State.report_quiet _ (by simp [Report.touches, noticeRetainedLost, noticeDemandUnsent])).trans
      (.silent rfl rfl rfl rfl rfl)
  · exact .silent rfl rfl rfl rfl rfl
  · exact .refl s

theorem State.scWritten_quiet (newCpr : Bool) : (s.scWritten newCpr).Quiet s :=
  (State.report_quiet _ (by simp [Report.touches, noticeRetainedLost, noticeSlewUnreferenced])).trans
    (.silent rfl rfl rfl rfl rfl)

/-- The settings of the Machine Bus Port and of the Slew Counter. -/
theorem State.settingChanged_quiet {n : Nat} (h : n < 8) (before : Settings) : (s.settingChanged before n).Quiet s := by
  interval_cases n
  · exact s.busRejoined_quiet
  · exact s.demandWritten_quiet _
  · exact s.demandWritten_quiet _
  · exact s.scWritten_quiet _
  · exact s.scWritten_quiet _
  all_goals exact .refl s

theorem State.settingDefault_quiet {n : Nat} (h : n < 8) : (s.settingDefault n).Quiet s := by
  unfold State.settingDefault State.applySetting
  split
  · exact .refl s
  · exact (State.settingChanged_quiet _ h _).trans (.silent rfl rfl rfl rfl rfl)

theorem State.Quiet.foldl {β : Type} {f : State → β → State} {l : List β}
    (hf : ∀ b ∈ l, ∀ u : State, (f u b).Quiet u) : (l.foldl f s).Quiet s := by
  induction l generalizing s with
  | nil => exact .refl s
  | cons b l ih => exact (ih (f s b) fun b' hb' => hf b' (by simp [hb'])).trans (hf b (by simp) s)

/-! ### The owners of CLEAR_RETAINED -/

theorem State.clearBus_quiet : s.clearBus.Quiet s := by
  unfold State.clearBus
  refine State.Quiet.trans (.foldl _ fun n hn u => u.settingDefault_quiet ?_) (.foldl _ fun i _ u => u.retireSource_quiet i)
  fin_cases hn <;> decide

theorem State.clearSlew_quiet : s.clearSlew.Quiet s := by
  unfold State.clearSlew
  refine .foldl _ fun n hn u => u.settingDefault_quiet ?_
  fin_cases hn <;> decide

theorem State.writeGeometry_quiet (g : Geometry) : (s.writeGeometry g).Quiet s :=
  (State.recompute_quiet _).trans ((State.report_quiet _ (by
    simp [Report.touches, noticeRetainedLost, noticeGeometryUnset])).trans (.silent rfl rfl rfl rfl rfl))

theorem State.clearZones_quiet : s.clearZones.Quiet s := (State.evaluateLimits_quiet _).trans (.silent rfl rfl rfl rfl rfl)

theorem State.clearLimiter_quiet : s.clearLimiter.Quiet s :=
  (State.evaluateLimits_quiet _).trans (.silent rfl rfl rfl rfl rfl)

theorem State.clearGrade_quiet : s.clearGrade.Quiet s := (State.evaluateGrade_quiet _).trans (.silent rfl rfl rfl rfl rfl)

theorem State.clearEconomy_quiet : s.clearEconomy.Quiet s :=
  (State.workOutTorque_quiet _).trans ((State.judgeOil_quiet _).trans ((State.judgeActivity_quiet _).trans
    ((State.judgeEngine_quiet _).trans (.silent rfl rfl rfl rfl rfl))))

theorem State.clearService_quiet : s.clearService.Quiet s := by
  refine (State.workOutTorque_quiet _).trans ((State.report_quiet _ fun r hr => ?_).trans (.silent rfl rfl rfl rfl rfl))
  obtain ⟨i, _, hi⟩ := List.mem_filterMap.mp hr
  obtain ⟨_, _, rfl⟩ := Option.map_eq_some_iff.mp hi
  simp [Report.touches, noticeRetainedLost, noticeServiceCritical, noticeServiceOverdue, noticeServiceDue]
  omega

theorem State.channelDefault_quiet (ch : Nat) : (s.channelDefault ch).Quiet s := by
  unfold State.channelDefault State.writeChannel
  rw [State.handBack_frame]
  exact .silent rfl rfl rfl rfl rfl

theorem State.clearValves_quiet : s.clearValves.Quiet s := by
  have hchannels : ((List.range 4).foldl State.channelDefault s).Quiet s := .foldl s fun ch _ u => u.channelDefault_quiet ch
  unfold State.clearValves
  refine State.Quiet.trans (t := (List.range 4).foldl State.channelDefault s) ?_ hchannels
  exact .silent rfl rfl rfl rfl rfl

theorem State.clearNoticeSettings_quiet : s.clearNoticeSettings.Quiet s := .silent rfl rfl rfl rfl rfl

theorem State.clearRetained_quiet : s.clearRetained.Quiet s :=
  (State.clearNoticeSettings_quiet _).trans <| (State.clearValves_quiet _).trans <| (State.clearService_quiet _).trans <|
    (State.clearEconomy_quiet _).trans <| (State.clearGrade_quiet _).trans <| (State.clearLimiter_quiet _).trans <|
    (State.clearZones_quiet _).trans <| (State.writeGeometry_quiet _ _).trans <| (State.clearSlew_quiet _).trans
    s.clearBus_quiet

/-- Where nothing was on its way, notice 0 stands through the delivery of what a quiet operation reported. -/
theorem State.Quiet.notice_zero {t s : State} (h : t.Quiet s) (hin : s.inbox = []) :
    noticeAt t.deliver.nu.notices 0 = noticeAt s.nu.notices 0 := by
  have htouches : ∀ r ∈ t.inbox, r.touches 0 = false := fun r hr =>
    (h.inbox r hr).elim (fun hr' => by rw [hin] at hr'; cases hr') id
  rw [State.deliver_notices, h.nu]
  by_cases hn : 0 < s.nu.notices.length
  · exact noticeAt_noticesAfter_untouched htouches hn
  · have hnil : s.nu.notices = [] := List.length_eq_zero_iff.mp (by omega)
    have hnil' : noticesAfter t.inbox s.nu.notices = [] :=
      List.length_eq_zero_iff.mp (by rw [noticesAfter_length, hnil]; rfl)
    rw [hnil', hnil]

/-! ### What a power-on leaves of the contents, and the request -/

theorem State.powerUp_ret_kept {s : State} (h : s.backupDropped = false) : s.powerUp.ret = s.ret.evaluated := by
  simp [State.powerUp, State.judgeRetained, h]

theorem State.powerUp_ret_lost {s : State} (h : s.backupDropped = true) : s.powerUp.ret = defaultRetained := by
  simp only [State.powerUp, State.start_ret, State.judgeRetained, h, if_true]
  rfl

theorem exec_clearRetained {s : State} (hrun : s.phase = .running) :
    exec .clearRetained s = .next (s.clearRetainedRequest.1.answer 23 s.clearRetainedRequest.2 []).deliver :=
  State.commit_running hrun fun s => s.clearRetainedRequest.1.answer 23 s.clearRetainedRequest.2 []

theorem State.clearRetainedRequest_locked {s : State} (h : s.pins.keyAsserted = false) :
    s.clearRetainedRequest = (s, .locked) := by
  simp [State.clearRetainedRequest, h]

theorem State.clearRetainedRequest_state {s : State} (h : s.pins.keyAsserted = true) (hst : s.ec.state ≠ .stopped) :
    s.clearRetainedRequest = (s, .state) := by
  simp [State.clearRetainedRequest, h, hst]

theorem State.clearRetainedRequest_done {s : State} (h : s.pins.keyAsserted = true) (hst : s.ec.state = .stopped) :
    s.clearRetainedRequest = (s.clearRetained, .ok) := by
  simp [State.clearRetainedRequest, h, hst]

end

end Sys2Proof.Machine

open Sys2Proof Sys2Proof.Machine

/-- Settles O60: a start sets every block from the retained contents and delivers the starting reports, whatever the reset
that brings it; CLEAR_RETAINED writes every content but the meters and reports nothing of notice 0. -/
theorem resetsAndPower : Obligations.ResetsAndPower := by
  intro s hin same first slotOf channelOf lit loss started released
  have hstart (u : State) (phase : Phase) (lost found : Bool) (hnow : u.now = s.now) (hpending : u.pending = s.pending) :
      started { u.start (loss found) with phase := phase, lossUnreported := lost } phase u.pins (loss found) := by
    have htouches : ∀ r ∈ loss found, r.touches 1 = false ∧ r.touches 35 = false := by
      intro r hr
      cases found
      · cases hr
      · rw [List.mem_singleton.mp hr]; exact ⟨rfl, rfl⟩
    obtain ⟨hnu, hnotices⟩ := u.start_nu (loss found)
    obtain ⟨hred, hamber⟩ := u.start_lamps htouches
    refine ⟨rfl, rfl, hnow, hpending, rfl, startMbp_eq u.ret.evaluated, rfl, rfl, rfl, rfl, rfl, rfl, rfl, hnu.changed,
      hnu.sound, hred, hamber, ?_, u.ret.evaluated_itemsSound⟩
    rw [startReports_eq] at hnotices
    exact hnotices
  refine ⟨fun hrun => ?_, fun hpow => ?_, fun hpow => ?_, ?_, ?_, rfl, fun hpow => ?_, fun hrun hkey => ?_,
    fun hrun hkey hst => ?_, fun hrun hkey hst hsrc hcfg => ?_⟩
  · exact ⟨s.start [], by simp [exec, execRestart, hrun], hstart s .running false false rfl rfl, rfl, rfl⟩
  · refine ⟨(s.setResetLow false).start (lossReports s.lossUnreported), ?_,
      hstart (s.setResetLow false) .running false s.lossUnreported rfl rfl, rfl, rfl⟩
    cases hp : s.phase <;> simp_all [exec, execReset]
  · simp [exec, execReset, hpow, State.setResetLow, released]
  · have hkept : s.backupDropped = false → same s.powerUp.ret s.ret := State.powerUp_ret_kept
    have hlost : s.backupDropped = true → s.powerUp.ret = defaultRetained := State.powerUp_ret_lost
    cases hlow : s.pins.resetLow
    · exact ⟨s.powerUp, by simp [exec, execPowerOn, hlow], hstart s.judgeRetained .running false s.backupDropped rfl rfl,
        hkept, hlost, rfl, rfl⟩
    · exact ⟨{ s.powerUp with phase := .held, lossUnreported := s.backupDropped }, by simp [exec, execPowerOn, hlow],
        hstart s.judgeRetained .held s.backupDropped s.backupDropped rfl rfl, hkept, hlost, rfl, rfl⟩
  · cases hp : s.phase <;> simp [exec, execResetNAsserted, hp, State.setResetLow]
  · simp [exec, execBackupDropped, hpow]
  · rw [exec_clearRetained hrun, State.clearRetainedRequest_locked hkey]
    exact congrArg Host.Outcome.next (State.deliver_none hin)
  · rw [exec_clearRetained hrun, State.clearRetainedRequest_state hkey hst]
    exact congrArg Host.Outcome.next (State.deliver_none hin)
  · have hquiet := s.clearRetained_quiet
    have hret := State.clearRetained_ret hsrc hcfg
    rw [exec_clearRetained hrun, State.clearRetainedRequest_done hkey hst]
    generalize s.clearRetained = c at hquiet hret
    exact ⟨(c.answer 23 .ok []).deliver, rfl, hret, hquiet.notice_zero hin, hquiet.isOpen, hquiet.edit,
      congrArg (fun l => { l with answer := some (.done 23 .ok []) }) hquiet.link⟩
end

-- ==== Proofs of sitting 1: the reads ====

section
/-! PROOFS. The reads (11 R178, R181): what each returns when its response is prepared, field by field of Tables 11-4 and
11-5. -/

namespace Sys2Proof.Machine

/-! ### Fields that the tables spell -/

theorem topBit_eq (n : Nat) (b : Bool) : n + 128 * yesNo b = n + if b then 128 else 0 := by cases b <;> rfl

theorem entryState_some (active : Bool) : entryState (some active) = if active then 1 else 2 := by cases active <;> rfl

theorem surfaceLine_eq (surface : Option Surface) :
    toBe 1 (entryState (surface.map Surface.active)) ++ optBe 1 (surface.map (fun f => f.kind.code)) =
      match surface with
      | none => [0, 255]
      | some f => toBe 1 (if f.active then 1 else 2) ++ toBe 1 f.kind.code := by
  cases surface with
  | none => rfl
  | some f => exact congrArg (fun n => toBe 1 n ++ toBe 1 f.kind.code) (entryState_some f.active)

theorem responseFlags_byte (overlap changed : Bool) :
    BitVec.ofNat 8 (responseFlags overlap changed) = (if overlap then 1 else 0) + (if changed then 2 else 0) := by
  cases overlap <;> cases changed <;> rfl

/-- A read's response is prepared from the state as it stands, and only READ_NOTICES touches more than the link (R178;
09 R155). -/
theorem exec_responseReady_read {s : State} (h : s.Ready) (hw : s.link.state = .working) {q : ReadRequest}
    (hq : q ≠ .notices) (ha : s.link.answer = some (.read q)) :
    exec .responseReady s = .next { s with link := { s.link with
      state := .ready, request := none, answer := none
      response := some ([BitVec.ofNat 8 q.code, BitVec.ofNat 8 (s.readNow q).1.code,
        (if s.link.overlap then 1 else 0) + (if s.nu.changed then 2 else 0), BitVec.ofNat 8 (s.readNow q).2.length] ++
          (s.readNow q).2) } } := by
  obtain ⟨hrun, hin⟩ := h
  have hchanged : changedAfter s.nu.changed (.read q) = s.nu.changed := by
    cases q with
    | notices => exact absurd rfl hq
    | _ => rfl
  have hprepare := s.prepare_answered hw ha
  rw [hchanged] at hprepare
  refine (State.commit_running hrun State.prepare).trans ?_
  rw [hprepare, State.deliver_none (by exact hin)]
  simp only [State.responseTo, responseFrame, responseFlags_byte]

/-! ### The blocks' own reads -/

theorem economyFlags_eq (st : EconomyState) :
    st.flags = if st = .idling then 1 else if st = .shutdownRequested then 2 else 0 := by cases st <;> rfl

theorem Vd.supplyCode_eq (v : Vd) : v.supplyCode = if !v.supplyLow then 1 else 0 := by
  cases h : v.supplyLow <;> simp [Vd.supplyCode, h]

theorem Vd.testTarget_eq (v : Vd) (ch : Nat) :
    v.testTarget ch = (v.test.filter (fun t => decide (t.channel = ch))).map DriveTest.current := by
  unfold Vd.testTarget
  cases v.test with
  | none => rfl
  | some t => by_cases h : t.channel = ch <;> simp [Option.filter, h]

theorem effectiveOf_eq (start target : Nat) : effectiveOf start target = if target = 0 then 0 else max start target := by
  unfold effectiveOf
  split
  · rfl
  · split <;> omega

theorem Channel.stateCode_eq (c : Channel) :
    c.state.code = if c.fault.isSome then 2 else if c.commanded = 0 then 1 else 0 := by
  unfold Channel.state
  rcases Nat.eq_zero_or_pos c.commanded with h | h
  · split <;> simp [h, ChannelState.code]
  · split <;> simp [Nat.pos_iff_ne_zero.mp h, ChannelState.code]

theorem ageField_some (now t : Nat) :
    ageField now (some t) = toBe 4 (if now - t < 4294967295 then now - t else Config.ageBeyondField (now - t)) := by
  change (if now - t < 4294967295 then toBe 4 (now - t) else toBe 4 (Config.ageBeyondField (now - t))) = _
  rw [apply_ite (toBe 4)]

/-! ### Entries -/

section
variable {s : State} {i : Nat}

theorem State.readZone_empty (hi : i < 12) (h : s.ret.zones.getD i none = none) : s.readZone i = (.empty, [0]) := by
  rw [State.readZone, if_neg (by omega), h]; rfl

theorem State.readZone_some (hi : i < 12) {z : Zone} (h : s.ret.zones.getD i none = some z) :
    s.readZone i =
      (.ok, toBe 1 (if z.active then 1 else 2) ++ toBe 2 z.start ++ toBe 2 z.width ++ toBe 1 z.condition.code ++
        optBeInt 4 z.limit ++ toBe 1 z.cls.code ++ toBe 2 z.tag ++ toBe 1 (if s.zt.engaged.getD i false then 1 else 0)) := by
  rw [State.readZone, if_neg (by omega), h, ← entryState_some]; rfl

theorem State.readSector_eq (hi : i < 32) :
    s.readSector i =
      (.ok, toBe 1 (s.ret.sectors.getD i ⟨.free, false⟩).cls.code ++
        toBe 1 (if (s.ret.sectors.getD i ⟨.free, false⟩).firm then 1 else 0)) := by
  rw [State.readSector, if_neg (by omega)]; rfl

theorem State.readSurface_empty (hi : i < 8) (h : s.ret.surfaces.getD i none = none) : s.readSurface i = (.empty, [0]) := by
  rw [State.readSurface, if_neg (by omega), Retained.surface, h]; rfl

theorem State.readSurface_some (hi : i < 8) {f : Surface} (h : s.ret.surfaces.getD i none = some f) :
    s.readSurface i =
      (.ok, toBe 1 (if f.active then 1 else 2) ++ toBe 1 f.kind.code ++ toBeInt 2 f.h0 ++ toBeInt 2 f.sx ++
        toBeInt 2 f.sy ++ toBe 2 f.start ++ toBe 2 f.width ++ toBe 2 f.tag) := by
  rw [State.readSurface, if_neg (by omega), Retained.surface, h, ← entryState_some]

theorem State.readItem_empty (hi : i < 24) (h : s.ret.item i = none) : s.readItem i = (.empty, [0]) := by
  rw [State.readItem, if_neg (by omega), h]; rfl

theorem State.readItem_some (hi : i < 24) {it : Item} (h : s.ret.item i = some it) :
    s.readItem i =
      (.ok, toBe 1 it.state.code ++ toBe 1 it.basis.code ++ toBe 4 it.interval ++ toBe 4 it.lead ++ toBe 4 it.grace ++
        optBe 8 it.stamp ++ optBe 8 it.cycles ++ toBe 8 (it.progress s.ret) ++ toBe 2 it.timesDone ++ optBe 1 it.derate ++
        toBe 2 it.tag) := by
  rw [State.readItem, if_neg (by omega), h]

theorem State.readSource_eq (hi : i < 8) :
    s.readSource i =
      (.ok, optBe 4 (s.source i).identifier ++ toBe 1 (s.source i).offset ++ toBe 1 (s.source i).order.code ++
        toBeInt 4 (s.source i).lo ++ toBeInt 4 (s.source i).hi ++ toBe 2 (s.source i).timeout ++
        toBe 1 (s.slot i).state.code ++ optBeInt 4 (s.slot i).lastGood ++ ageField s.now (s.slot i).lastTime) := by
  rw [State.readSource, if_neg (by omega)]

theorem State.readMode_eq (hi : i < 4) :
    s.readMode i =
      (.ok, toBe 2 (s.ret.mode i).speed ++ toBe 1 (s.ret.mode i).torque ++
        toBe 1 (if i == s.ret.selectedMode then 1 else 0)) := by
  rw [State.readMode, if_neg (by omega)]; rfl

theorem State.readChannel_eq (hi : i < 4) :
    s.readChannel i =
      (.ok, toBe 2 (s.ret.config i).imax ++ toBe 2 (s.ret.config i).start ++ optBe 2 (s.ret.config i).slow ++
        toBe 2 (s.ret.config i).rampUp ++ toBe 2 (s.ret.config i).rampDown ++ toBe 2 (s.ret.config i).ditherAmp ++
        toBe 2 (s.ret.config i).ditherFreq ++ toBe 1 (if (s.ret.config i).mask then 1 else 0)) := by
  rw [State.readChannel, if_neg (by omega)]; rfl

theorem Geometry.stateCode_eq (g : Geometry) : g.stateCode = if g.dims.isNone then 1 else 0 := by
  unfold Geometry.stateCode
  cases g.dims <;> rfl

theorem State.readGeometry_eq :
    s.readGeometry 0 =
      (.ok, toBe 1 (if s.ret.geometry.dims.isNone then 1 else 0) ++ optBeInt 2 (s.ret.geometry.dims.map Dims.fr) ++
        optBeInt 2 (s.ret.geometry.dims.map Dims.fz) ++ optBeInt 2 (s.ret.geometry.dims.map Dims.lb) ++
        optBeInt 2 (s.ret.geometry.dims.map Dims.ls) ++ optBeInt 2 (s.ret.geometry.dims.map Dims.lk) ++
        optBeInt 2 (s.ret.geometry.dims.map Dims.ob) ++ optBeInt 2 (s.ret.geometry.dims.map Dims.os) ++
        optBeInt 2 (s.ret.geometry.dims.map Dims.ok) ++ toBeInt 2 s.ret.geometry.dig ++ toBeInt 2 s.ret.geometry.dump) := by
  rw [← Geometry.stateCode_eq]
  rfl

theorem State.readSetting_eq {v : Int} (h : s.ret.settings.get i = some v) : s.readSetting i = (.ok, toBeInt 4 v) := by
  rw [State.readSetting, h]

/-- The parameter numbers are 0 to 35 without 14 and 15 (Table 11-3). -/
theorem Settings.get_none (x : Settings) {n : Nat} (h : n = 14 ∨ n = 15 ∨ 36 ≤ n) : x.get n = none := by
  rcases h with rfl | rfl | h
  · rfl
  · rfl
  · obtain ⟨k, rfl⟩ := Nat.exists_eq_add_of_le' h
    rfl

/-- The number of entries of each table, SETTINGS counting its parameter numbers (Table 11-4). -/
def tableEntries : List (Nat × Nat) := [(1, 12), (2, 32), (3, 8), (4, 24), (5, 8), (6, 4), (7, 4), (8, 1), (9, 36)]

theorem State.readEntry_badIndex {t n : Nat} (ht : (t, n) ∈ tableEntries) (hi : n ≤ i) :
    s.readEntry t i = (.badIndex, []) := by
  simp only [tableEntries, List.mem_cons, Prod.mk.injEq, List.not_mem_nil, or_false] at ht
  rcases ht with ⟨rfl, rfl⟩ | ⟨rfl, rfl⟩ | ⟨rfl, rfl⟩ | ⟨rfl, rfl⟩ | ⟨rfl, rfl⟩ | ⟨rfl, rfl⟩ | ⟨rfl, rfl⟩ |
    ⟨rfl, rfl⟩ | ⟨rfl, rfl⟩
  · exact if_pos hi
  · exact if_pos hi
  · exact if_pos hi
  · exact if_pos hi
  · exact if_pos hi
  · exact if_pos hi
  · exact if_pos hi
  · exact if_pos (show i ≠ 0 by omega)
  · change s.readSetting i = _
    rw [State.readSetting, Settings.get_none _ (by omega)]

theorem State.readEntry_badTable {t : Nat} (ht : t = 0 ∨ 10 ≤ t) : s.readEntry t i = (.badTable, []) := by
  refine if_pos ?_
  simp only [tableRefused, Bool.or_eq_true, decide_eq_true_eq]
  omega

theorem State.listTable_badTable {t : Nat} (ht : t = 0 ∨ 9 ≤ t) : s.listTable t = (.badTable, []) := by
  rcases ht with rfl | h
  · rfl
  · obtain ⟨k, rfl⟩ := Nat.exists_eq_add_of_le' h
    rfl

theorem flagInt_eq (b : Bool) : flagInt b = if b then 1 else 0 := by cases b <;> rfl

end

end Sys2Proof.Machine

open Sys2Proof Sys2Proof.Machine

/-- Settles O51: a request only waits for its response, which `State.readNow` forms from the state as it stands; each clause is
one reader written out in the order of its table. -/
theorem readsChangeNothing : Obligations.ReadsChangeNothing := by
  refine ⟨fun s table index h => ?_, fun s h hw => ?_⟩
  · intro asks
    obtain ⟨hrun, hin⟩ := h
    exact ⟨State.commit_ask hrun hin _, State.commit_ask hrun hin _, State.commit_ask hrun hin _,
      State.commit_ask hrun hin _, State.commit_ask hrun hin _, State.commit_ask hrun hin _, State.commit_ask hrun hin _⟩
  · intro answers flag life x p g fl lim engaged asked age channel num on settings
    have hread (q : ReadRequest) (hq : q ≠ .notices) : answers q q.code (s.readNow q).1 (s.readNow q).2 :=
      exec_responseReady_read h hw hq
    have hread' {q : ReadRequest} {code : Nat} {result : ResultCode} {payload : List Byte} (hq : q ≠ .notices)
        (hcode : q.code = code) (hnow : s.readNow q = (result, payload)) : answers q code result payload := by
      have := hread q hq
      rw [hcode, hnow] at this
      exact this
    have entry {table index : Nat} {result : ResultCode} {payload : List Byte}
        (hnow : s.readEntry table index = (result, payload)) : answers (.entry table index) 1 result payload :=
      hread' (by simp) rfl hnow
    have list {table : Nat} {result : ResultCode} {payload : List Byte}
        (hnow : s.listTable table = (result, payload)) : answers (.list table) 4 result payload :=
      hread' (by simp) rfl hnow
    refine ⟨?_, ?_, ?_, ?_, ?_, fun i hi => ?_, fun i hi => ?_, fun i hi => ?_, fun i hi => ?_, fun i hi => ?_, fun i hi => ?_,
      ?_, ?_, ?_, ?_, ?_, ?_, ?_, ?_, ?_, ?_, ?_, ?_, ?_, ?_⟩
    · exact hread' (by simp) rfl rfl
    · exact hread' (by simp) rfl rfl
    · exact hread' (by simp) rfl rfl
    · refine hread' (by simp) rfl ?_
      simp only [State.readNow, State.economyPayload, speedDemand_eq, economyFlags_eq]
      rfl
    · refine hread' (by simp) rfl ?_
      have hchannel (k : Nat) : s.channelPayload k = channel k := by
        simp only [State.channelPayload, Vd.testTarget_eq, effectiveTarget, effectiveOf_eq, Vd.targetInForce,
          Channel.stateCode_eq]
        rfl
      simp only [State.readNow, State.drivePayload, Vd.supplyCode_eq, hchannel, List.range_succ, List.range_zero,
        List.nil_append, List.cons_append, List.flatMap_cons, List.flatMap_nil, List.append_nil, List.append_assoc]
      rfl
    · exact ⟨fun hz => entry (State.readZone_empty hi hz), fun z hz => entry (State.readZone_some hi hz)⟩
    · exact entry (State.readSector_eq hi)
    · exact ⟨fun hf => entry (State.readSurface_empty hi hf), fun f hf => entry (State.readSurface_some hi hf)⟩
    · exact ⟨fun hit => entry (State.readItem_empty hi hit), fun it hit => entry (State.readItem_some hi hit)⟩
    · have hage (last : Option Nat) : ageField s.now last = age last := by
        cases last with
        | none => rfl
        | some t => exact ageField_some _ _
      intro src v
      exact entry ((State.readSource_eq hi).trans (by rw [hage]))
    · exact ⟨entry (State.readMode_eq hi), entry (State.readChannel_eq hi)⟩
    · refine ⟨entry ?_, list ?_⟩
      · exact State.readGeometry_eq
      · exact congrArg (fun n => (ResultCode.ok, toBe 1 n)) s.ret.geometry.stateCode_eq
    · have hall : ∀ e ∈ settings, x.get e.1 = some e.2 := by
        simp [settings, num, on, Settings.get, flagInt_eq, absentMarkInt]
      exact fun n v hnv => entry (State.readSetting_eq (hall (n, v) hnv))
    · refine list (congrArg (fun f => (ResultCode.ok, (List.range 12).flatMap f)) (funext fun i => ?_))
      cases s.ret.zones.getD i none with
      | none => rfl
      | some z => exact congrArg (fun n => toBe 1 n ++ flag (s.zt.engaged.getD i false)) (entryState_some z.active)
    · refine list (congrArg (fun f => (ResultCode.ok, (List.range 32).flatMap f)) (funext fun i => ?_))
      exact congrArg (toBe 1) (topBit_eq (s.ret.sectors.getD i defaultSector).cls.code
        (s.ret.sectors.getD i defaultSector).firm)
    · refine list (congrArg (fun f => (ResultCode.ok, (List.range 8).flatMap f)) (funext fun i => ?_))
      exact surfaceLine_eq (s.ret.surfaces.getD i none)
    · refine list (congrArg (fun f => (ResultCode.ok, (List.range 24).flatMap f)) (funext fun i => ?_))
      cases s.ret.item i with
      | none => rfl
      | some it => rfl
    · exact list rfl
    · exact list rfl
    · refine list (congrArg (fun f => (ResultCode.ok, (List.range 4).flatMap f)) (funext fun i => ?_))
      rw [Channel.stateCode_eq]
    · exact fun t ht => list (State.listTable_badTable ht)
    · exact fun t i ht => entry (State.readEntry_badTable ht)
    · exact fun t i n ht hi => entry (State.readEntry_badIndex ht hi)
    · exact entry rfl
    · exact entry rfl
end

-- ==== Proofs of sitting 1: values on the wire and written settings ====

section
/-! PROOFS. Values on the wire read back (11 R182), and the values that settings take when they are written (11 R181). -/

namespace Sys2Proof.Machine

/-! ### Values on the wire -/

theorem toBe_length (n v : Nat) : (toBe n v).length = n := by
  induction n with
  | zero => rfl
  | succ n ih => simp [toBe, ih]

theorem toBeInt_length (n : Nat) (v : Int) : (toBeInt n v).length = n := toBe_length n _

theorem foldl_toBe (n v acc : Nat) :
    (toBe n v).foldl (fun k b => k * 256 + b.toNat) acc = acc * 256 ^ n + v % 256 ^ n := by
  induction n generalizing acc with
  | zero => simp [toBe, Nat.mod_one]
  | succ n ih =>
    have hsplit : v % 256 ^ (n + 1) = 256 ^ n * (v / 256 ^ n % 256) + v % 256 ^ n := by
      rw [pow_succ, Nat.mod_mul, Nat.add_comm]
    rw [toBe, List.foldl_cons, ih, hsplit, BitVec.toNat_ofNat]
    ring

theorem beNat_toBe {n v : Nat} (h : v < 256 ^ n) : beNat (toBe n v) = v := by
  rw [beNat, foldl_toBe, Nat.zero_mul, Nat.zero_add, Nat.mod_eq_of_lt h]

theorem beInt_toBeInt {n : Nat} {v : Int} (hlo : -(256 ^ n : Int) ≤ 2 * v) (hhi : 2 * v < 256 ^ n) :
    beInt (toBeInt n v) = v := by
  have hcast : ((256 ^ n : Nat) : Int) = 256 ^ n := by push_cast; rfl
  have hpos : (0 : Int) < 256 ^ n := by positivity
  have hmod : v % 256 ^ n = if 0 ≤ v then v else v + 256 ^ n := by
    split
    · exact Int.emod_eq_of_lt ‹_› (by omega)
    · rw [← Int.add_emod_right]
      exact Int.emod_eq_of_lt (by omega) (by omega)
  have hnat : beNat (toBeInt n v) = (v % 256 ^ n).toNat := beNat_toBe (by split at hmod <;> omega)
  simp only [beInt, toBeInt_length, hnat]
  split at hmod <;> split <;> omega

/-! ### Clamped values -/

theorem clampNat_cast {lo hi : Nat} (h : lo ≤ hi) (v : Int) :
    (clampNat lo hi v : Int) = max (lo : Int) (min (hi : Int) v) := by
  unfold clampNat clampInt
  split
  · omega
  · split <;> omega

theorem clampNat_eq {lo hi : Nat} (h : lo ≤ hi) (v : Int) :
    clampNat lo hi v = (max (lo : Int) (min (hi : Int) v)).toNat := by
  have := clampNat_cast h v
  omega

theorem clampNat_le {lo hi : Nat} (h : lo ≤ hi) (v : Int) : clampNat lo hi v ≤ hi := by
  have := clampNat_cast h v
  omega

theorem clampNat_flag (v : Int) : (clampNat 0 1 v == 1) = decide (1 ≤ v) := by
  have := clampNat_cast (Nat.zero_le 1) v
  rw [Bool.eq_iff_iff, beq_iff_eq, decide_eq_true_iff]
  omega

theorem flagInt_clampNat (v : Int) : flagInt (clampNat 0 1 v == 1) = max 0 (min 1 v) := by
  rw [clampNat_flag, flagInt_eq]
  split <;> simp only [decide_eq_true_eq] at * <;> omega

theorem clsAt_code {n : Nat} (h : n ≤ 3) : (clsAt n).code = n := by
  interval_cases n <;> rfl

theorem clsAt_clampNat (v : Int) :
    clsAt (clampNat 0 3 v) = if v ≤ 0 then .free else if v = 1 then .warn else if v = 2 then .slow else .stop := by
  have h := clampNat_cast (Nat.zero_le 3) v
  have hk : clampNat 0 3 v = if v ≤ 0 then 0 else if v = 1 then 1 else if v = 2 then 2 else 3 := by
    split_ifs <;> omega
  rw [hk]
  simp only [apply_ite clsAt]
  rfl

theorem statusFunctionOf_code {n : Nat} (h : n ≤ 9) : (statusFunctionOf n).code = n := by
  interval_cases n <;> rfl

theorem clsAt_clampNat_code (v : Int) : ((clsAt (clampNat 0 3 v)).code : Int) = max 0 (min 3 v) := by
  rw [clsAt_code (clampNat_le (by decide) v), clampNat_cast (by decide)]
  rfl

theorem statusFunctionOf_clampNat_code (v : Int) : ((statusFunctionOf (clampNat 0 9 v)).code : Int) = max 0 (min 9 v) := by
  rw [statusFunctionOf_code (clampNat_le (by decide) v), clampNat_cast (by decide)]
  rfl

/-! ### The settings once a value has been written -/

section
variable {x : Settings} {n : Nat} {v : Int}

/-- Only CPR and the down threshold touch another setting (02 R18; 10 R169). -/
theorem Settings.get_written_other (hn : n ≠ 3 ∧ n ≠ 34) {k : Nat} (hk : k ≠ n) : (x.written v n).get k = x.get k := by
  obtain ⟨h3, h34⟩ := hn
  unfold Settings.written
  split
  case h_4 => exact absurd rfl h3
  case h_33 => exact absurd rfl h34
  all_goals
    unfold Settings.get
    split
    any_goals rfl
  all_goals exact absurd rfl hk

/-- A plain setting takes the value clamped to its range (Table 11-3). -/
theorem Settings.get_written_plain (x : Settings) (v : Int) :
    ∀ e ∈ plainRanges, (x.written v e.1).get e.1 = some (max e.2.1 (min e.2.2 v)) := by
  simp only [plainRanges, List.forall_mem_cons, List.not_mem_nil, IsEmpty.forall_iff, implies_true, and_true]
  and_intros
  all_goals
    refine congrArg some ?_
    simp (disch := decide) only [Settings.written, flagInt_clampNat, clampNat_cast, clsAt_clampNat_code,
      statusFunctionOf_clampNat_code, Nat.cast_ofNat, Nat.cast_zero, Nat.cast_one]

/-- The default of a plain setting lies within its range (Table 11-3). -/
theorem plainRanges_default : ∀ e ∈ plainRanges, ∃ d, defaultSettings.get e.1 = some d ∧ e.2.1 ≤ d ∧ d ≤ e.2.2 := by
  decide

/-- The parameter numbers that are settings (Table 11-3). -/
theorem Settings.get_isSome (x : Settings) (h : n ≤ 13 ∨ 16 ≤ n ∧ n ≤ 35) : (x.get n).isSome := by
  rcases h with h | ⟨h, h'⟩
  · interval_cases n <;> rfl
  · interval_cases n <;> rfl

/-- Where no other setting can be clamped, the result says whether the value was (log entry 16). -/
theorem okOr_writeClamped {y : Settings} (hn : n ≠ 3 ∧ n ≠ 34) {p : Prop} [Decidable p] (h : p ↔ y.get n = some v) :
    okOr (writeClamped x y n v) = if p then .ok else .okClamped := by
  have hclamped : writeClamped x y n v = decide (¬p) := by
    simp [writeClamped, beq_eq_false_iff_ne.mpr hn.1, beq_eq_false_iff_ne.mpr hn.2, h]
  by_cases hp : p <;> simp [hclamped, okOr, hp]

end

/-! ### PUT_ENTRY and RETIRE_ENTRY on SETTINGS -/

section
variable {s : State} {n : Nat} {v : Int}

theorem State.applySetting_same (s : State) (n : Nat) : s.applySetting n s.ret.settings = s := if_pos rfl

theorem State.applySetting_changed {y : Settings} (h : y ≠ s.ret.settings) :
    s.applySetting n y = (s.setSettings y).settingChanged s.ret.settings n := if_neg h

theorem State.writeSetting_eq (h : (s.ret.settings.get n).isSome) :
    s.writeSetting n v =
      (s.applySetting n (s.ret.settings.written v n),
        okOr (writeClamped s.ret.settings (s.ret.settings.written v n) n v), indexWritten n) := by
  obtain ⟨old, hold⟩ := Option.isSome_iff_exists.mp h
  simp [State.writeSetting, hold]

theorem fieldInt_setting (hlo : -2147483648 ≤ v) (hhi : v ≤ 2147483647) : fieldInt (toBeInt 4 v) 0 4 = v := by
  rw [fieldInt, field, List.drop_zero, List.take_of_length_le (toBeInt_length 4 v).le]
  exact beInt_toBeInt (by norm_num; omega) (by norm_num; omega)

theorem State.putEntry_setting (i : Nat) {p : List Byte} (hp : p.length = 4) :
    s.putEntry 9 i p = s.writeSetting i (fieldInt p 0 4) := by
  simp [State.putEntry, tableRefused, putLength, hp, State.putSetting]

theorem exec_putEntry {t i : Byte} {p answer : List Byte} {u : State} {result : ResultCode} (hrun : s.phase = .running)
    (h : s.putEntry t.toNat i.toNat p = (u, result, answer)) :
    exec (.putEntry t i p) s = .next (u.answer 2 result answer).deliver := by
  refine (State.commit_running hrun (fun s => (s.putEntry t.toNat i.toNat p).1.answer 2 (s.putEntry t.toNat i.toNat p).2.1
    (s.putEntry t.toNat i.toNat p).2.2)).trans ?_
  simp only [h]

theorem exec_retireEntry {t i : Byte} {answer : List Byte} {u : State} {result : ResultCode} (hrun : s.phase = .running)
    (h : s.retireEntry t.toNat i.toNat = (u, result, answer)) :
    exec (.retireEntry t i) s = .next (u.answer 3 result answer).deliver := by
  refine (State.commit_running hrun (fun s => (s.retireEntry t.toNat i.toNat).1.answer 3 (s.retireEntry t.toNat i.toNat).2.1
    (s.retireEntry t.toNat i.toNat).2.2)).trans ?_
  simp only [h]

theorem indexWritten_toNat (i : Byte) : indexWritten i.toNat = [i] := by simp [indexWritten]

theorem exec_putSetting (hrun : s.phase = .running) {i : Byte} (hget : (s.ret.settings.get i.toNat).isSome)
    (hlo : -2147483648 ≤ v) (hhi : v ≤ 2147483647) :
    exec (.putEntry 9 i (toBeInt 4 v)) s =
      .next ((s.applySetting i.toNat (s.ret.settings.written v i.toNat)).answer 2
        (okOr (writeClamped s.ret.settings (s.ret.settings.written v i.toNat) i.toNat v)) [i]).deliver := by
  have hput := s.putEntry_setting i.toNat (toBeInt_length 4 v)
  rw [fieldInt_setting hlo hhi, State.writeSetting_eq hget, indexWritten_toNat] at hput
  exact exec_putEntry hrun hput

/-- RETIRE_ENTRY puts the default (R181). -/
theorem exec_retireSetting (hrun : s.phase = .running) {i : Byte} (hget : (s.ret.settings.get i.toNat).isSome)
    (hv : defaultSettings.get i.toNat = some v) :
    exec (.retireEntry 9 i) s =
      .next ((s.applySetting i.toNat (s.ret.settings.written v i.toNat)).answer 3
        (okOr (writeClamped s.ret.settings (s.ret.settings.written v i.toNat) i.toNat v)) []).deliver := by
  have hretire : s.retireEntry 9 i.toNat = s.retireSetting i.toNat := rfl
  rw [State.retireSetting, hv, Option.getD_some, State.writeSetting_eq hget] at hretire
  exact exec_retireEntry hrun hretire

theorem exec_putEntry_refused (h : s.Ready) {t i : Byte} {p : List Byte} {result : ResultCode}
    (hput : s.putEntry t.toNat i.toNat p = (s, result, [])) : exec (.putEntry t i p) s = .next (s.answer 2 result []) :=
  (exec_putEntry h.1 hput).trans (congrArg Host.Outcome.next (State.deliver_none h.2))

theorem exec_retireEntry_refused (h : s.Ready) {t i : Byte} {result : ResultCode}
    (hretire : s.retireEntry t.toNat i.toNat = (s, result, [])) :
    exec (.retireEntry t i) s = .next (s.answer 3 result []) :=
  (exec_retireEntry h.1 hretire).trans (congrArg Host.Outcome.next (State.deliver_none h.2))

end

end Sys2Proof.Machine
end

-- ==== Proofs of sitting 1: settings and what a change does ====

section
/-! PROOFS. What a changed setting does at its owner (11 R181), and the writes of SETTINGS. -/

namespace Sys2Proof.Machine

variable {s : State} {n : Nat} {x : Settings}

/-! ### What a write of a setting leaves alone -/

/-- The pins, the time, the phase and the link are as before. -/
structure State.SameBoard (t s : State) : Prop where
  pins : t.pins = s.pins
  now : t.now = s.now
  phase : t.phase = s.phase
  link : t.link = s.link

theorem State.SameBoard.refl (s : State) : s.SameBoard s := ⟨rfl, rfl, rfl, rfl⟩

theorem State.settingChanged_sameBoard (before : Settings) (n : Nat) : (s.settingChanged before n).SameBoard s := by
  unfold State.settingChanged
  split
  case h_1 => rw [State.busRejoined_frame]; exact ⟨rfl, rfl, rfl, rfl⟩
  case h_2 => rw [State.demandWritten_frame]; exact ⟨rfl, rfl, rfl, rfl⟩
  case h_3 => rw [State.demandWritten_frame]; exact ⟨rfl, rfl, rfl, rfl⟩
  case h_15 => rw [State.judgeEngine_frame]; exact ⟨rfl, rfl, rfl, rfl⟩
  case h_16 =>
    unfold State.autoIdleWritten
    repeat' split
    all_goals exact ⟨rfl, rfl, rfl, rfl⟩
  case h_17 =>
    unfold State.shutdownWritten
    repeat' split
    all_goals exact ⟨rfl, rfl, rfl, rfl⟩
  case h_18 => rw [State.judgeActivity_frame]; exact ⟨rfl, rfl, rfl, rfl⟩
  case h_20 => rw [State.judgeOil_frame]; exact ⟨rfl, rfl, rfl, rfl⟩
  all_goals exact ⟨rfl, rfl, rfl, rfl⟩

theorem State.applySetting_sameBoard (s : State) (n : Nat) (x : Settings) : (s.applySetting n x).SameBoard s := by
  by_cases h : x = s.ret.settings
  · rw [h, State.applySetting_same]
    exact .refl s
  · rw [State.applySetting_changed h]
    obtain ⟨hpins, hnow, hphase, hlink⟩ := State.settingChanged_sameBoard (s := s.setSettings x) s.ret.settings n
    exact ⟨hpins, hnow, hphase, hlink⟩

/-- A write whose change has no effect of its own puts the settings in place. -/
theorem State.applySetting_silent (h : (s.setSettings x).settingChanged s.ret.settings n = s.setSettings x) :
    s.applySetting n x = s.setSettings x := by
  by_cases hx : x = s.ret.settings
  · rw [hx, State.applySetting_same]
    rfl
  · rw [State.applySetting_changed hx, h]

theorem State.applySetting_readLater (h : n ∈ [5, 6, 7, 13, 20, 28, 29, 30, 31, 32, 33]) :
    s.applySetting n x = s.setSettings x := by
  refine State.applySetting_silent ?_
  simp only [List.mem_cons, List.not_mem_nil, or_false] at h
  rcases h with rfl | rfl | rfl | rfl | rfl | rfl | rfl | rfl | rfl | rfl | rfl <;> rfl

/-- Nothing but the setting of a parameter number, its owner's state and the link's answer differs. -/
structure State.WritesOnly (t s : State) (n : Nat) : Prop where
  ret : t.ret = { s.ret with settings := t.ret.settings }
  others : ∀ k, k ≠ n → t.ret.settings.get k = s.ret.settings.get k
  board : t.pins = s.pins ∧ t.now = s.now ∧ t.phase = s.phase
  readLater : n ∈ [5, 6, 7, 13, 20, 28, 29, 30, 31, 32, 33] → t = { s with ret := t.ret, link := t.link }

theorem State.WritesOnly.answered {u : State} (h : u.WritesOnly s n) (hin : s.inbox = []) (a : Nat) (r : ResultCode)
    (p : List Byte) : (u.answer a r p).deliver.WritesOnly s n where
  ret := h.ret
  others := h.others
  board := h.board
  readLater hlater := by
    have hu := h.readLater hlater
    have hquiet : (u.answer a r p).inbox = [] := (congrArg State.inbox hu).trans hin
    rw [State.deliver_none hquiet]
    exact (congrArg (fun u => State.answer u a r p) hu).trans rfl

theorem State.applySetting_writesOnly (s : State) {v : Int} (hn : n ≠ 3 ∧ n ≠ 34) :
    (s.applySetting n (s.ret.settings.written v n)).WritesOnly s n where
  ret := by rw [State.applySetting_ret]
  others k hk := by
    rw [State.applySetting_ret]
    exact Settings.get_written_other hn hk
  board := by
    obtain ⟨hpins, hnow, hphase, -⟩ := s.applySetting_sameBoard n (s.ret.settings.written v n)
    exact ⟨hpins, hnow, hphase⟩
  readLater hlater := by
    rw [State.applySetting_readLater hlater]
    rfl

/-! ### The bit rate and the Demand message (01 R1, R12, R16) -/

theorem State.busRejoined_idle (h : s.mbp.deferred = false) : s.busRejoined = s := by
  simp [State.busRejoined, h]

theorem State.busRejoined_deferred (h : s.mbp.deferred = true) :
    s.busRejoined =
      if 15 ≤ s.mbp.unsent then s.enterBusOff
      else { s with mbp := { s.mbp with deferred := false, unsent := s.mbp.unsent + 1 } } := by
  rw [State.busRejoined, if_pos h, State.attemptEnds_deferred h, if_neg Bool.false_ne_true]
  exact if_congr (Nat.succ_le_succ_iff (a := 15)) rfl rfl

/-- Transmission is enabled and has an identifier (R12). -/
abbrev Settings.Sends (x : Settings) : Prop := x.demandEnable = true ∧ x.demandId.isSome = true

theorem demandEnabled_iff : demandEnabled x = true ↔ x.Sends := by
  simp [demandEnabled]

theorem State.demandWritten_same {before : Bool} (h : demandEnabled s.ret.settings = before) :
    s.demandWritten before = s := by
  cases before <;> simp [State.demandWritten, h]

theorem State.demandWritten_stops (h : demandEnabled s.ret.settings = false) :
    s.demandWritten true = s.demandDisabled := by simp [State.demandWritten, h]

theorem State.demandWritten_starts (h : demandEnabled s.ret.settings = true) :
    s.demandWritten false = s.demandStarted := by simp [State.demandWritten, h]

theorem State.demandDisabled_first (h : s.inbox = []) :
    s.demandDisabled = { s with
      mbp := { s.mbp with
        waiting := none, built := false, acked := false, deferred := false, period := none, recovery := none
        busOff := false, unsent := 0 }
      inbox := [.condition noticeDemandUnsent false] } := by
  simp only [State.demandDisabled, State.report, h, List.nil_append]

section
variable (hn : n = 1 ∨ n = 2)
include hn

/-- The two settings that govern transmission act alike. -/
theorem State.settingChanged_demand (u : State) (before : Settings) :
    u.settingChanged before n = u.demandWritten (demandEnabled before) := by
  rcases hn with rfl | rfl <;> rfl

theorem State.applySetting_demandSame (h : s.ret.settings.Sends ↔ x.Sends) : s.applySetting n x = s.setSettings x := by
  refine State.applySetting_silent ((State.settingChanged_demand hn _ _).trans (State.demandWritten_same ?_))
  rw [Bool.eq_iff_iff, demandEnabled_iff, demandEnabled_iff]
  exact h.symm

theorem State.applySetting_demandStops (hin : s.inbox = []) (h : s.ret.settings.Sends) (h' : ¬x.Sends) :
    s.applySetting n x = { s.setSettings x with
      mbp := { s.mbp with
        waiting := none, built := false, acked := false, deferred := false, period := none, recovery := none
        busOff := false, unsent := 0 }
      inbox := [.condition 53 false] } := by
  have hne : x ≠ s.ret.settings := fun hx => h' (hx ▸ h)
  rw [← demandEnabled_iff, Bool.not_eq_true] at h'
  rw [State.applySetting_changed hne, State.settingChanged_demand hn, demandEnabled_iff.mpr h, State.demandWritten_stops h']
  exact State.demandDisabled_first hin

theorem State.applySetting_demandStarts (h : ¬s.ret.settings.Sends) (h' : x.Sends) :
    s.applySetting n x = { s.setSettings x with
      mbp := { s.mbp with period := some 50, built := false, acked := false } } := by
  have hne : x ≠ s.ret.settings := fun hx => h (hx ▸ h')
  rw [← demandEnabled_iff, Bool.not_eq_true] at h
  rw [State.applySetting_changed hne, State.settingChanged_demand hn, h,
    State.demandWritten_starts (demandEnabled_iff.mpr h')]
  rfl

end

/-! ### The economy (07 R110 to R113, R117, R118) -/

/-- The machine is in an economy state other than IDLING and SHUTDOWN_REQUESTED, with its auto-idle timer as given. -/
def State.entered (u : State) (st : EconomyState) (auto : Timer) : State :=
  ({ u with
    ec := { u.ec with state := st, autoIdle := auto, shutdown := none, wait := none }
    vd := if st = EconomyState.stopped then u.vd else { u.vd with test := none, duration := none }
    inbox := [.condition 85 false, .condition 55 false] }).workOutTorque

theorem State.ecoMove_first (h : s.inbox = []) {st : EconomyState} (hst : st = .stopped ∨ st = .working ∨ st = .settling)
    (auto : Timer) : s.ecoMove st auto none none = s.entered st auto := by
  rcases hst with rfl | rfl | rfl <;>
  · simp only [State.ecoMove, State.report, h, List.nil_append]
    rfl

theorem State.enterWorking_active (h : s.inbox = []) (ha : s.ec.active = true ∨ s.ret.settings.autoIdleDelay = 0) :
    s.enterWorking = s.entered .working none := by
  have hguard : (s.ec.active || s.ret.settings.autoIdleDelay == 0) = true := by simpa using ha
  rw [State.enterWorking, if_pos hguard, State.ecoMove_first h (by simp)]

theorem State.enterWorking_idle (h : s.inbox = []) (ha : s.ec.active = false) (hd : s.ret.settings.autoIdleDelay ≠ 0) :
    s.enterWorking = s.entered .settling (some (s.ret.settings.autoIdleDelay * 1000)) := by
  have hguard : ¬(s.ec.active || s.ret.settings.autoIdleDelay == 0) = true := by simp [ha, hd]
  rw [State.enterWorking, if_neg hguard, State.ecoMove_first h (by simp)]
  rfl

/-- The copy of a slot that the Economy Controller holds (R110). -/
abbrev Ec.copy (e : Ec) (k : Nat) : SourceCopy := e.copies.getD k ⟨.disabled, none⟩

theorem engineOutcome_running_iff {threshold : Nat} {e : Ec} :
    engineOutcome threshold e = .running ↔ ∃ a, e.copy 1 = ⟨.fresh, some a⟩ ∧ (threshold : Int) ≤ a := by
  unfold engineOutcome
  split
  · next a hcopy =>
    rw [show e.copy 1 = _ from hcopy]
    simp
  · next hcopy =>
    simp only [reduceCtorEq, false_iff, not_exists, not_and]
    exact fun a ha => absurd ha (hcopy a)

theorem engineOutcome_stopped_iff {threshold : Nat} {e : Ec} :
    engineOutcome threshold e = .stopped ↔ ∃ a, e.copy 1 = ⟨.fresh, some a⟩ ∧ a < threshold := by
  unfold engineOutcome
  split
  · next a hcopy =>
    rw [show e.copy 1 = _ from hcopy]
    simp
  · next hcopy =>
    simp only [reduceCtorEq, false_iff, not_exists, not_and]
    exact fun a ha => absurd ha (hcopy a)

theorem State.judgeEngine_starts (h : engineOutcome s.ret.settings.runThreshold s.ec = .running)
    (hst : s.ec.state = .stopped) :
    s.judgeEngine = s.enterWorking := by
  simp [State.judgeEngine, h, hst]

theorem State.judgeEngine_stops (hin : s.inbox = []) (h : engineOutcome s.ret.settings.runThreshold s.ec = .stopped)
    (hst : s.ec.state ≠ .stopped) : s.judgeEngine = s.entered .stopped none := by
  simp [State.judgeEngine, h, hst, State.ecoMove_first hin]

theorem State.judgeEngine_same (hrun : engineOutcome s.ret.settings.runThreshold s.ec = .running → s.ec.state ≠ .stopped)
    (hstop : engineOutcome s.ret.settings.runThreshold s.ec = .stopped → s.ec.state = .stopped) : s.judgeEngine = s := by
  unfold State.judgeEngine
  split
  · next h => exact if_neg (hrun h)
  · next h => exact if_pos (hstop h)
  · rfl

theorem activityNow_iff {e : Ec} :
    activityNow x e = true ↔
      (¬∃ a, e.copy 4 = ⟨.fresh, some a⟩ ∧ a ≤ x.pilotThreshold) ∨ e.gateStill < e.omega.natAbs := by
  have hspeed : (e.gateStill : Int) < e.omega ∨ e.omega < -(e.gateStill : Int) ↔ e.gateStill < e.omega.natAbs := by omega
  unfold activityNow
  rw [Bool.or_eq_true, Bool.or_eq_true, decide_eq_true_iff, decide_eq_true_iff, or_assoc, hspeed]
  refine or_congr_left ?_
  split
  · next a hcopy =>
    rw [show e.copy 4 = _ from hcopy]
    simp
  · next hcopy =>
    simp only [true_iff, not_exists, not_and]
    exact fun a ha => absurd ha (hcopy a)

/-- The activity condition is as given. -/
def State.judged (s : State) (active : Bool) : State := { s with ec := { s.ec with active := active } }

theorem State.judgeActivity_begins (hin : s.inbox = []) (hnow : activityNow s.ret.settings s.ec = true)
    (hbefore : s.ec.active = false) (hst : s.ec.state = .settling ∨ s.ec.state = .idling) :
    s.judgeActivity = (s.entered .working none).judged true := by
  have hmove : s.judgeActivity = (s.judged true).ecoMove .working none none none := by
    rcases hst with hst | hst <;> simp [State.judgeActivity, State.activityBegins, hbefore, hnow, hst, State.judged]
  rw [hmove, State.ecoMove_first (s := s.judged true) hin (by simp)]
  rfl

theorem State.judgeActivity_ends (hin : s.inbox = []) (hnow : activityNow s.ret.settings s.ec = false)
    (hbefore : s.ec.active = true) (hst : s.ec.state = .working) (hd : s.ret.settings.autoIdleDelay ≠ 0) :
    s.judgeActivity = (s.entered .settling (some (s.ret.settings.autoIdleDelay * 1000))).judged false := by
  have hmove : s.judgeActivity = (s.judged false).ecoMove .settling s.ret.settings.autoIdleStart none none := by
    simp [State.judgeActivity, State.activityEnds, hbefore, hnow, hst, State.judged, hd]
  rw [hmove, State.ecoMove_first (s := s.judged false) hin (by simp)]
  rfl

theorem State.judgeActivity_stays
    (hbegins : ¬(activityNow s.ret.settings s.ec = true ∧ s.ec.active = false ∧
      (s.ec.state = .settling ∨ s.ec.state = .idling)))
    (hends : ¬(activityNow s.ret.settings s.ec = false ∧ s.ec.active = true ∧ s.ec.state = .working ∧
      s.ret.settings.autoIdleDelay ≠ 0)) :
    s.judgeActivity = s.judged (activityNow s.ret.settings s.ec) := by
  cases hbefore : s.ec.active <;> cases hnow : activityNow s.ret.settings s.ec
  · simp [State.judgeActivity, hbefore, hnow, State.judged]
  · have hst : s.ec.state ≠ .settling ∧ s.ec.state ≠ .idling := by simpa [hnow, hbefore] using hbegins
    cases hs : s.ec.state <;> simp_all [State.judgeActivity, State.activityBegins, State.judged]
  · have hst : s.ec.state = .working → s.ret.settings.autoIdleDelay = 0 := by simpa [hnow, hbefore] using hends
    cases hs : s.ec.state <;> simp_all [State.judgeActivity, State.activityEnds, State.judged]
  · simp [State.judgeActivity, hbefore, hnow, State.judged]

/-- The latch turns, its notice follows and T is worked out. -/
def State.turned (s : State) (latch : Bool) : State :=
  ({ s with ec := { s.ec with oilLatch := latch }, inbox := [.condition 56 latch] }).workOutTorque

theorem State.judgeOil_turns (hin : s.inbox = []) {latch : Bool}
    (h : oilLatchNext s.ret.settings.oilStart (s.ec.copy 3) s.ec.oilLatch = latch) (hl : latch ≠ s.ec.oilLatch) :
    s.judgeOil = s.turned latch := by
  subst h
  rw [State.judgeOil, if_neg hl]
  simp only [State.report, hin, List.nil_append]
  rfl

theorem State.judgeOil_same (h : oilLatchNext s.ret.settings.oilStart (s.ec.copy 3) s.ec.oilLatch = s.ec.oilLatch) :
    s.judgeOil = s := by
  rw [State.judgeOil, if_pos h]

theorem oilLatchNext_hot {start : Nat} {copy : SourceCopy} {latch : Bool}
    (h : ∃ a, copy = ⟨.fresh, some a⟩ ∧ (start : Int) ≤ a) : oilLatchNext start copy latch = true := by
  obtain ⟨a, rfl, ha⟩ := h
  simp [oilLatchNext, ha]

theorem oilLatchNext_cool {start : Nat} {copy : SourceCopy} {latch : Bool}
    (h : ∃ a, copy = ⟨.fresh, some a⟩ ∧ a ≤ (start : Int) - 5) : oilLatchNext start copy latch = false := by
  obtain ⟨a, rfl, ha⟩ := h
  have hnot : ¬(start : Int) ≤ a := by omega
  simp [oilLatchNext, ha, hnot]

theorem oilLatchNext_same {start : Nat} {copy : SourceCopy} {latch : Bool}
    (hhot : (∃ a, copy = ⟨.fresh, some a⟩ ∧ (start : Int) ≤ a) → latch = true)
    (hcool : (∃ a, copy = ⟨.fresh, some a⟩ ∧ a ≤ (start : Int) - 5) → latch = false) :
    oilLatchNext start copy latch = latch := by
  unfold oilLatchNext
  split
  · next a =>
    split
    · exact (hhot ⟨a, rfl, ‹_›⟩).symm
    · split
      · exact (hcool ⟨a, rfl, ‹_›⟩).symm
      · rfl
  · rfl

end Sys2Proof.Machine
end

-- ==== Proofs of sitting 1: the writes of SETTINGS ====

section
/-! PROOFS. PUT_ENTRY and RETIRE_ENTRY on SETTINGS, clause by clause (11 R180, R181). -/

namespace Sys2Proof.Machine

section
variable {s : State} {n : Nat} {v : Int} {y : Settings} {r : ResultCode} {t : State}

/-- A parameter number of Table 11-3. -/
abbrev SettingNumber (n : Nat) : Prop := n ≤ 13 ∨ 16 ≤ n ∧ n ≤ 35

theorem SettingNumber.toNat (hn : SettingNumber n) : (BitVec.ofNat 8 n).toNat = n := by
  rw [BitVec.toNat_ofNat]
  omega

/-- A write in terms of the settings it leaves, its result and its effect. -/
theorem putSetting_wrote (hrun : s.phase = .running) (hlo : -2147483648 ≤ v) (hhi : v ≤ 2147483647) (hn : SettingNumber n)
    (hy : s.ret.settings.written v n = y) (hr : okOr (writeClamped s.ret.settings y n v) = r) (ht : s.applySetting n y = t) :
    exec (.putEntry 9 (BitVec.ofNat 8 n) (toBeInt 4 v)) s = .next (t.answer 2 r [BitVec.ofNat 8 n]).deliver := by
  have hget : (s.ret.settings.get (BitVec.ofNat 8 n).toNat).isSome := by
    rw [hn.toNat]
    exact s.ret.settings.get_isSome hn
  have hput := exec_putSetting hrun hget hlo hhi
  rwa [hn.toNat, hy, hr, ht] at hput

/-- RETIRE_ENTRY is a write of the default. -/
theorem retireSetting_wrote (hrun : s.phase = .running) (hn : SettingNumber n) (hv : defaultSettings.get n = some v)
    (hy : s.ret.settings.written v n = y) (hr : okOr (writeClamped s.ret.settings y n v) = r) (ht : s.applySetting n y = t) :
    exec (.retireEntry 9 (BitVec.ofNat 8 n)) s = .next (t.answer 3 r []).deliver := by
  have hget : (s.ret.settings.get (BitVec.ofNat 8 n).toNat).isSome := by
    rw [hn.toNat]
    exact s.ret.settings.get_isSome hn
  have hretire := exec_retireSetting (v := v) hrun hget (hn.toNat.symm ▸ hv)
  rwa [hn.toNat, hy, hr, ht] at hretire

theorem plainRanges_numbers : ∀ e ∈ plainRanges, SettingNumber e.1 ∧ e.1 ≠ 3 ∧ e.1 ≠ 34 := by decide

theorem State.answered_get {u : State} (h : u.ret.settings = y) (a : Nat) (p : List Byte) :
    (u.answer a r p).deliver.ret.settings.get n = y.get n := by
  rw [← h]
  rfl

theorem State.applySetting_settings (s : State) (n : Nat) (y : Settings) : (s.applySetting n y).ret.settings = y := by
  rw [State.applySetting_ret]

theorem State.applySetting_unchanged (h : y = s.ret.settings) : s.applySetting n y = s.setSettings y := by
  rw [h, State.applySetting_same]
  rfl

/-- A write of a plain setting clamps the value to its range and touches no other setting (R180). -/
theorem putSetting_plain (h : s.Ready) {lo hi : Int} (hmem : (n, lo, hi) ∈ plainRanges) (hlo : -2147483648 ≤ v)
    (hhi : v ≤ 2147483647) :
    ∃ t, exec (.putEntry 9 (BitVec.ofNat 8 n) (toBeInt 4 v)) s = .next t ∧
      t.ret.settings.get n = some (max lo (min hi v)) ∧ t.WritesOnly s n ∧
      t.link.answer = some (.done 2 (if max lo (min hi v) = v then .ok else .okClamped) [BitVec.ofNat 8 n]) := by
  obtain ⟨hn, hplain⟩ := plainRanges_numbers _ hmem
  have hget : (s.ret.settings.written v n).get n = some (max lo (min hi v)) := Settings.get_written_plain _ v _ hmem
  refine ⟨_, putSetting_wrote h.1 hlo hhi hn rfl (okOr_writeClamped hplain ?_) rfl,
    (State.answered_get (s.applySetting_settings n _) _ _).trans hget,
    (s.applySetting_writesOnly hplain).answered h.2 _ _ _, rfl⟩
  rw [hget, Option.some.injEq]

/-- RETIRE_ENTRY of a plain setting puts its default, which clamps nothing (R181). -/
theorem retireSetting_plain (h : s.Ready) {lo hi : Int} (hmem : (n, lo, hi) ∈ plainRanges) :
    ∃ t, exec (.retireEntry 9 (BitVec.ofNat 8 n)) s = .next t ∧ t.ret.settings.get n = defaultSettings.get n ∧
      t.WritesOnly s n ∧ t.link.answer = some (.done 3 .ok []) := by
  obtain ⟨hn, hplain⟩ := plainRanges_numbers _ hmem
  obtain ⟨d, hd, hdlo, hdhi⟩ := plainRanges_default _ hmem
  have hget : (s.ret.settings.written d n).get n = some d := by
    rw [Settings.get_written_plain _ d _ hmem, min_eq_right hdhi, max_eq_right hdlo]
  have hr : okOr (writeClamped s.ret.settings (s.ret.settings.written d n) n d) = .ok :=
    (okOr_writeClamped hplain (iff_of_true trivial hget)).trans (if_pos trivial)
  exact ⟨_, retireSetting_wrote h.1 hn hd rfl hr rfl,
    (State.answered_get (s.applySetting_settings n _) _ _).trans (hget.trans hd.symm),
    (s.applySetting_writesOnly hplain).answered h.2 _ _ _, rfl⟩

/-- A parameter number, its default and the bounds of the value on the wire. -/
abbrev SettingDefault (e : Nat × Int) : Prop :=
  SettingNumber e.1 ∧ defaultSettings.get e.1 = some e.2 ∧ -2147483648 ≤ e.2 ∧ e.2 ≤ 2147483647

/-- RETIRE_ENTRY of a setting does what a PUT_ENTRY of its default does, and answers its own way (R181). -/
theorem retireSetting_putsDefault (hrun : s.phase = .running) (h : SettingDefault (n, v)) :
    ∃ t r, exec (.putEntry 9 (BitVec.ofNat 8 n) (toBeInt 4 v)) s = .next t ∧
      t.link.answer = some (.done 2 r [BitVec.ofNat 8 n]) ∧
      exec (.retireEntry 9 (BitVec.ofNat 8 n)) s =
        .next { t with link := { t.link with answer := some (.done 3 r []) } } := by
  obtain ⟨hn, hdefault, hlo, hhi⟩ := h
  exact ⟨_, _, putSetting_wrote hrun hlo hhi hn rfl rfl rfl, rfl,
    (retireSetting_wrote hrun hn hdefault rfl rfl rfl).trans rfl⟩

theorem putSetting_badIndex (h : s.Ready) {i : Byte} (hi : s.ret.settings.get i.toNat = none) {p : List Byte}
    (hp : p.length = 4) : exec (.putEntry 9 i p) s = .next (s.answer 2 .badIndex []) := by
  have hput := s.putEntry_setting i.toNat hp
  rw [State.writeSetting, hi] at hput
  exact exec_putEntry_refused h hput

theorem retireSetting_badIndex (h : s.Ready) {i : Byte} (hi : s.ret.settings.get i.toNat = none) :
    exec (.retireEntry 9 i) s = .next (s.answer 3 .badIndex []) := by
  have hretire : s.retireEntry 9 i.toNat = s.retireSetting i.toNat := rfl
  rw [State.retireSetting, State.writeSetting, hi] at hretire
  exact exec_retireEntry_refused h hretire

end

/-! ### The results of the writes (log entry 16) -/

section
variable {s : State} {n : Nat} {v : Int} {x y : Settings} {p : Prop} [Decidable p]

theorem okOr_ite {b : Bool} (h : b = decide (¬p)) : okOr b = if p then .ok else .okClamped := by
  subst h
  by_cases hp : p <;> simp [okOr, hp]

/-- A write of what stands clamps no other setting. -/
theorem okOr_writeClamped_same {a : Int} (hget : x.get n = some a) (h : p ↔ v = a) :
    okOr (writeClamped x x n v) = if p then .ok else .okClamped :=
  okOr_ite (by simp [writeClamped, hget, h, eq_comm])

theorem okOr_writeClamped_of_get {a : Int} (hn : n ≠ 3 ∧ n ≠ 34) (hget : y.get n = some a) (h : p ↔ v = a) :
    okOr (writeClamped x y n v) = if p then .ok else .okClamped :=
  okOr_writeClamped hn (by rw [hget, Option.some.injEq, h]; exact eq_comm)

theorem okOr_writeClamped_plain {lo hi : Int} (h : (n, lo, hi) ∈ plainRanges) :
    okOr (writeClamped x (x.written v n) n v) = if lo ≤ v ∧ v ≤ hi then .ok else .okClamped := by
  have hle : lo ≤ hi := (by decide : ∀ e ∈ plainRanges, e.2.1 ≤ e.2.2) _ h
  have hget : (x.written v n).get n = some (max lo (min hi v)) := Settings.get_written_plain x v _ h
  exact okOr_writeClamped_of_get (plainRanges_numbers _ h).2 hget (by omega)

theorem absentMarkInt_four : absentMarkInt 4 = -2147483648 := by norm_num [absentMarkInt]

theorem Settings.written_demandId (x : Settings) (v : Int) :
    x.written v 1 = { x with
      demandId := if v = -2147483648 then none else some (max 0 (min 536870911 v)).toNat } := by
  rw [Settings.written, absentMarkInt_four, clampNat_eq (by decide)]
  rfl

theorem Settings.get_demandId {y : Settings} :
    y.get 1 = some ((y.demandId.map Int.ofNat).getD (-2147483648)) := by
  rw [Settings.get, absentMarkInt_four]

theorem Settings.written_indexPos {x : Settings} (h : 1000 ≤ x.cpr) (v : Int) :
    x.written v 4 = { x with indexPos := (max 0 (min ((x.cpr : Int) - 1) v)).toNat } := by
  have hcast : ((x.cpr - 1 : Nat) : Int) = (x.cpr : Int) - 1 := by omega
  rw [Settings.written, clampNat_eq (Nat.zero_le _), hcast]
  rfl

theorem writeClamped_cpr : writeClamped x y 3 v = decide (¬(v = y.cpr ∧ y.indexPos = x.indexPos)) := by
  rw [Bool.eq_iff_iff]
  simp only [writeClamped, Settings.get, Bool.or_eq_true, Bool.and_eq_true, decide_eq_true_iff, bne_iff_ne, beq_iff_eq,
    Option.some.injEq, ne_eq]
  rw [eq_comm (a := (y.cpr : Int))]
  tauto

theorem writeClamped_supplyDown :
    writeClamped x y 34 v = decide (¬(v = y.supplyDown ∧ y.supplyUp = x.supplyUp)) := by
  rw [Bool.eq_iff_iff]
  simp only [writeClamped, Settings.get, Bool.or_eq_true, Bool.and_eq_true, decide_eq_true_iff, bne_iff_ne, beq_iff_eq,
    Option.some.injEq, ne_eq]
  rw [eq_comm (a := (y.supplyDown : Int))]
  tauto

theorem demandId_value_iff :
    (v = -2147483648 ∨ 0 ≤ v ∧ v ≤ 536870911) ↔
      v = ((if v = -2147483648 then none else some (max 0 (min 536870911 v)).toNat).map Int.ofNat).getD (-2147483648) := by
  split
  · simp [*]
  · simp only [Option.map_some, Option.getD_some, Int.ofNat_eq_natCast]
    omega

theorem demandEnable_value_iff : (0 ≤ v ∧ v ≤ 1) ↔ v = flagInt (decide (1 ≤ v)) := by
  rw [flagInt_eq]
  split <;> simp only [decide_eq_true_eq] at * <;> omega

theorem delayOf_eq {least top : Nat} (h : least ≤ top) (v : Int) :
    delayOf least top v = if v ≤ 0 then 0 else (max (least : Int) (min (top : Int) v)).toNat := by
  rw [delayOf, clampNat_eq h]

theorem thresholdOf_eq {lo hi : Nat} (h : lo ≤ hi) (v : Int) :
    thresholdOf lo hi v = (max (lo : Int) (min (hi : Int) v)).toNat / 5 * 5 := by
  rw [thresholdOf, clampNat_eq h]

end

/-! ### What each owner makes of its setting -/

section
variable {s : State} {y : Settings}

theorem State.applySetting_cpr (hin : s.inbox = []) (h : s.ret.settings.cpr ≠ y.cpr) :
    s.applySetting 3 y = { s.setSettings y with
      sc := { s.sc with count := 0, referenced := false, travel := 0, gateAcc := 0, runDir := .none, runCount := 0 }
      inbox := [.condition 35 true] } := by
  have hnew : (s.ret.settings.cpr != (s.setSettings y).ret.settings.cpr) = true := bne_iff_ne.mpr h
  rw [State.applySetting_changed (fun hy => h (by rw [hy])), State.settingChanged, hnew]
  simp only [State.scWritten, State.report, State.setSettings, hin, List.nil_append]
  rfl

theorem State.applySetting_indexPos (hin : s.inbox = []) (h : y ≠ s.ret.settings) :
    s.applySetting 4 y = { s.setSettings y with
      sc := { s.sc with count := 0, referenced := false, travel := 0 }, inbox := [.condition 35 true] } := by
  rw [State.applySetting_changed h, State.settingChanged]
  simp only [State.scWritten, State.report, State.setSettings, hin, List.nil_append]
  rfl

theorem State.autoIdleWritten_stops (hin : s.inbox = []) (hst : s.ec.state = .settling)
    (hd : s.ret.settings.autoIdleDelay = 0) (before : Nat) : s.autoIdleWritten before = s.entered .working none := by
  rw [State.autoIdleWritten, if_pos hd, if_pos hst, State.ecoMove_first hin (by simp)]

theorem State.autoIdleWritten_starts (hin : s.inbox = []) (hst : s.ec.state = .working) (ha : s.ec.active = false)
    (hd : s.ret.settings.autoIdleDelay ≠ 0) :
    s.autoIdleWritten 0 = s.entered .settling (some (s.ret.settings.autoIdleDelay * 1000)) := by
  rw [State.autoIdleWritten, if_neg hd, if_pos ⟨rfl, hst, ha⟩, State.ecoMove_first hin (by simp)]
  rfl

theorem State.autoIdleWritten_same {before : Nat} (hstop : ¬(s.ec.state = .settling ∧ s.ret.settings.autoIdleDelay = 0))
    (hstart : ¬(s.ec.state = .working ∧ s.ec.active = false ∧ s.ret.settings.autoIdleDelay ≠ 0 ∧ before = 0)) :
    s.autoIdleWritten before = s := by
  unfold State.autoIdleWritten
  split
  · exact if_neg (fun hst => hstop ⟨hst, ‹_›⟩)
  · exact if_neg (fun ⟨hb, hst, ha⟩ => hstart ⟨hst, ha, ‹_›, hb⟩)

theorem State.shutdownWritten_stops (hin : s.inbox = []) (hst : s.ec.state = .idling) (hd : s.ret.settings.shutdownDelay = 0)
    (before : Nat) :
    s.shutdownWritten before = { s with ec := { s.ec with shutdown := none }, inbox := [.condition 55 false] } := by
  rw [State.shutdownWritten, if_pos hst, if_pos hd]
  simp only [State.report, hin, List.nil_append]
  rfl

theorem State.shutdownWritten_starts (hst : s.ec.state = .idling) (hd : s.ret.settings.shutdownDelay ≠ 0) :
    s.shutdownWritten 0 = { s with ec := { s.ec with shutdown := some (s.ret.settings.shutdownDelay * 1000) } } := by
  rw [State.shutdownWritten, if_pos hst, if_neg hd, if_pos rfl, Settings.shutdownStart, if_neg hd]

theorem State.shutdownWritten_same {before : Nat}
    (h : s.ec.state ≠ .idling ∨ s.ret.settings.shutdownDelay ≠ 0 ∧ before ≠ 0) : s.shutdownWritten before = s := by
  rcases h with hst | ⟨hd, hb⟩
  · exact if_neg hst
  · simp [State.shutdownWritten, hd, hb]

/-- A qualification once its threshold has changed: it runs on, is started, or is stopped (10 R169). -/
def qualified (met : Prop) [Decidable met] (old : Timer) (ms : Nat) : Timer :=
  if met then (if old.isSome then old else some ms) else none

theorem Vd.judgeSupply_eq (d : Vd) (down up supply : Nat) :
    d.judgeSupply down up supply = { d with
      downQual := if d.supplyLow then none else qualified (supply < down) d.downQual 20
      upQual := if d.supplyLow then qualified (up ≤ supply) d.upQual 100 else none } := by
  unfold Vd.judgeSupply
  split
  · next h => simp only [h]; rfl
  · next h => simp only [h]; rfl

end

end Sys2Proof.Machine

open Sys2Proof Sys2Proof.Machine

/-- Settles O45: a write is `Settings.written` followed by what the owner makes of the change (`State.applySetting`); each
clause takes the settings it leaves, its result and its effect from the lemmas above. -/
theorem settingsClamped : Obligations.SettingsClamped := by
  refine ⟨fun s n lo hi v h hmem hlo hhi => ⟨?_, ?_⟩, fun s v h hc hlo hhi => ?_,
    fun s i h => ⟨fun n d hn hd => ?_, fun hi => ?_⟩⟩
  · obtain ⟨t, ht, hget, ⟨hret, hothers, ⟨hpins, hnow, hphase⟩, hlater⟩, hanswer⟩ := putSetting_plain h hmem hlo hhi
    exact ⟨t, ht, hget, ⟨hret, hothers, hpins, hnow, hphase, hlater⟩, hanswer⟩
  · obtain ⟨t, ht, hget, ⟨hret, hothers, ⟨hpins, hnow, hphase⟩, hlater⟩, hanswer⟩ := retireSetting_plain h hmem
    exact ⟨t, ht, hget, ⟨hret, hothers, hpins, hnow, hphase, hlater⟩, hanswer⟩
  · intro x set result wrote rate rated sends demand ident cpr placed pos idle shut moved delayed stops starts held judged
      down lowered top raised
    have put {n : Nat} {y : Settings} {r : ResultCode} {t : State} (hn : SettingNumber n) (hy : x.written v n = y)
        (hr : okOr (writeClamped x y n v) = r) (ht : s.applySetting n y = t) : wrote n r t :=
      putSetting_wrote h.1 hlo hhi hn hy hr ht
    have demands {n : Nat} (hn : n = 1 ∨ n = 2) (y : Settings) (r : ResultCode) (hy : x.written v n = y)
        (hr : okOr (writeClamped x y n v) = r) : demand n y r := by
      have hnumber : SettingNumber n := by omega
      exact ⟨fun hx hy' => put hnumber hy hr (State.applySetting_demandStops hn h.2 hx hy'),
        fun hx hy' => put hnumber hy hr (State.applySetting_demandStarts hn hx hy'),
        fun hs => put hnumber hy hr (State.applySetting_demandSame hn hs)⟩
    have hdelay : x.written v 22 = delayed := by
      rw [Settings.written, delayOf_eq (by decide)]
      rfl
    have hshut : x.written v 23 = { x with shutdownDelay := shut } := by
      rw [Settings.written, delayOf_eq (by decide)]
      rfl
    have hlowered : x.written v 34 = lowered := by
      rw [Settings.written, thresholdOf_eq (by decide)]
      rfl
    have hraised : x.written v 35 = raised := by
      rw [Settings.written, thresholdOf_eq (by decide)]
      rfl
    have hjudged (y : Settings) : (s.setSettings y).judgeSupply = judged y := by
      rw [State.judgeSupply, Vd.judgeSupply_eq]
      rfl
    refine ⟨fun h0 => ?_, fun h0 hd => ⟨fun hu => ?_, fun hu => ?_⟩, ?_, ?_,
      fun h3 => ?_, fun h3 => ?_, fun h4 => ?_, fun h4 => ?_,
      fun h22 => ?_, fun h22 => ?_, fun h22 h22' => ?_, fun hst h23 h23' => ?_, fun hst h23 h23' => ?_, fun h23 => ?_,
      fun h34 => ?_, fun h34 => ?_, fun h35 => ?_, fun h35 => ?_, ?_, ?_, ?_, ?_⟩
    -- the bit rate (01 R1)
    · refine put (by decide) rfl (okOr_writeClamped_of_get (by decide) rfl Iff.rfl) ?_
      rcases h0 with h0 | h0
      · exact State.applySetting_unchanged (congrArg (fun k => { x with canBitRate := k }) h0.symm)
      · exact State.applySetting_silent (State.busRejoined_idle h0)
    · refine put (by decide) rfl (okOr_writeClamped_of_get (by decide) rfl Iff.rfl) ?_
      rw [State.applySetting_changed (fun hy => h0 (congrArg Settings.canBitRate hy).symm)]
      exact (State.busRejoined_deferred (s := rated) hd).trans (if_neg (Nat.not_le.mpr hu))
    · refine put (by decide) rfl (okOr_writeClamped_of_get (by decide) rfl Iff.rfl) ?_
      rw [State.applySetting_changed (fun hy => h0 (congrArg Settings.canBitRate hy).symm)]
      exact ((State.busRejoined_deferred (s := rated) hd).trans (if_pos hu)).trans (State.enterBusOff_first h.2)
    -- the Demand identifier and enable (01 R12, R16)
    · exact demands (.inl rfl) _ _ (x.written_demandId v)
        (okOr_writeClamped_of_get (by decide) Settings.get_demandId demandId_value_iff)
    · exact demands (.inr rfl) _ _ (congrArg (fun b => { x with demandEnable := b }) (clampNat_flag v))
        (okOr_writeClamped_of_get (by decide) rfl demandEnable_value_iff)
    -- CPR and the index position (02 R18, R19)
    · have hy : x.written v 3 = placed := by
        rw [Settings.written, clampNat_eq (by decide)]
        rfl
      have hsame : placed = x := by
        have hindex : min x.indexPos (cpr - 1) = x.indexPos :=
          Nat.min_eq_left (Nat.le_sub_one_of_lt (lt_of_lt_of_eq hc.2.1 h3.symm))
        simp only [placed, hindex]
        exact congrArg (fun k => { x with cpr := k }) h3
      refine put (by decide) (hy.trans hsame) (okOr_writeClamped_same rfl ?_) (s.applySetting_same 3)
      rw [h3]
    · have hy : x.written v 3 = placed := by
        rw [Settings.written, clampNat_eq (by decide)]
        rfl
      exact put (by decide) hy (okOr_ite writeClamped_cpr) (State.applySetting_cpr h.2 h3.symm)
    · refine put (by decide) ((Settings.written_indexPos hc.1 v).trans ?_) (okOr_writeClamped_same rfl ?_)
        (s.applySetting_same 4)
      · exact congrArg (fun k => { x with indexPos := k }) h4
      · rw [h4]
    · exact put (by decide) (Settings.written_indexPos hc.1 v) (okOr_writeClamped_of_get (by decide) rfl Iff.rfl)
        (State.applySetting_indexPos h.2 (fun hy => h4 (congrArg Settings.indexPos hy)))
    -- the auto-idle and shutdown delays (07 R113)
    · refine put (by decide) hdelay (okOr_writeClamped_of_get (by decide) rfl Iff.rfl) ?_
      obtain ⟨hst, hidle, hbefore⟩ := h22
      rw [State.applySetting_changed (fun hy => hbefore ((congrArg Settings.autoIdleDelay hy).symm.trans hidle))]
      exact State.autoIdleWritten_stops (s := set delayed) h.2 hst hidle _
    · refine put (by decide) hdelay (okOr_writeClamped_of_get (by decide) rfl Iff.rfl) ?_
      obtain ⟨hst, hactive, hidle, hbefore⟩ := h22
      rw [State.applySetting_changed (fun hy => hidle ((congrArg Settings.autoIdleDelay hy).trans hbefore)),
        State.settingChanged, show s.ret.settings.autoIdleDelay = 0 from hbefore]
      exact State.autoIdleWritten_starts (s := set delayed) h.2 hst hactive hidle
    · refine put (by decide) hdelay (okOr_writeClamped_of_get (by decide) rfl Iff.rfl) ?_
      by_cases hy : idle = x.autoIdleDelay
      · exact State.applySetting_unchanged (congrArg (fun k => { x with autoIdleDelay := k }) hy)
      · refine State.applySetting_silent (State.autoIdleWritten_same (s := set delayed) ?_ ?_)
        · exact fun ⟨hst, hidle⟩ => h22 ⟨hst, hidle, fun hbefore => hy (hidle.trans hbefore.symm)⟩
        · exact fun ⟨hst, hactive, hidle, hbefore⟩ => h22' ⟨hst, hactive, hidle, hbefore⟩
    · refine put (by decide) hshut (okOr_writeClamped_of_get (by decide) rfl Iff.rfl) ?_
      rw [State.applySetting_changed (fun hy => h23' ((congrArg Settings.shutdownDelay hy).symm.trans h23))]
      exact State.shutdownWritten_stops (s := held) h.2 hst h23 _
    · refine put (by decide) hshut (okOr_writeClamped_of_get (by decide) rfl Iff.rfl) ?_
      rw [State.applySetting_changed (fun hy => h23 ((congrArg Settings.shutdownDelay hy).trans h23')),
        State.settingChanged, show s.ret.settings.shutdownDelay = 0 from h23']
      exact State.shutdownWritten_starts (s := held) hst h23
    · refine put (by decide) hshut (okOr_writeClamped_of_get (by decide) rfl Iff.rfl) ?_
      by_cases hy : shut = x.shutdownDelay
      · exact State.applySetting_unchanged (congrArg (fun k => { x with shutdownDelay := k }) hy)
      · refine State.applySetting_silent (State.shutdownWritten_same (s := held) (h23.imp_right fun hzero => ?_))
        exact ⟨fun hs => hy (hs.trans (hzero.mp hs).symm), fun hb => hy ((hzero.mpr hb).trans hb.symm)⟩
    -- the supply thresholds (10 R169)
    · refine put (by decide) (y := x) (hlowered.trans h34) (okOr_writeClamped_same rfl ?_) (s.applySetting_same 34)
      rw [show down = x.supplyDown from congrArg Settings.supplyDown h34]
    · refine put (by decide) hlowered (okOr_ite writeClamped_supplyDown) ?_
      exact (State.applySetting_changed h34).trans (hjudged lowered)
    · refine put (by decide) (y := x) (hraised.trans h35) (okOr_writeClamped_same rfl ?_) (s.applySetting_same 35)
      rw [h35]
    · refine put (by decide) hraised (okOr_writeClamped_of_get (by decide) rfl Iff.rfl) ?_
      exact (State.applySetting_changed h35).trans (hjudged raised)
    -- the settings whose change has an owner evaluate or work out afresh
    · intro acts num on cls
      have act {n lo hi : Nat} {y : Settings} {effect : State → State} (hmem : (n, (lo : Int), (hi : Int)) ∈ plainRanges)
          (hy : x.written v n = y) (heffect : ∀ (u : State) (before : Settings), u.settingChanged before n = effect u) :
          acts n lo hi y effect := by
        have hr := okOr_writeClamped_plain (x := x) (v := v) hmem
        rw [hy] at hr
        have hn : SettingNumber n := (plainRanges_numbers _ hmem).1
        refine ⟨fun hyx => put hn hy hr ?_, fun hyx => put hn hy hr ?_⟩
        · rw [hyx]
          exact s.applySetting_same n
        · exact (State.applySetting_changed hyx).trans (heffect _ _)
      refine ⟨?_, ?_, ?_, ?_, ?_, ?_, ?_, ?_, ?_, ?_, ?_⟩
      · exact act (by decide) (congrArg (fun b => { x with zoneLimiting := b }) (clampNat_flag v)) (fun _ _ => rfl)
      · exact act (by decide) (congrArg (fun b => { x with sectorMap := b }) (clampNat_flag v)) (fun _ _ => rfl)
      · exact act (by decide) (congrArg (fun c => { x with defaultClass := c }) (clsAt_clampNat v)) (fun _ _ => rfl)
      · exact act (by decide) (congrArg (fun c => { x with holdClass := c }) (clsAt_clampNat v)) (fun _ _ => rfl)
      · exact act (by decide) (congrArg (fun c => { x with noAngleClass := c }) (clsAt_clampNat v)) (fun _ _ => rfl)
      · exact act (by decide) (congrArg (fun k => { x with decel := k }) (clampNat_eq (by decide) v)) (fun _ _ => rfl)
      · exact act (by decide) (congrArg (fun k => { x with margin := k }) (clampNat_eq (by decide) v)) (fun _ _ => rfl)
      · exact act (by decide) (congrArg (fun k => { x with onGradeBand := k }) (clampNat_eq (by decide) v)) (fun _ _ => rfl)
      · exact act (by decide) (congrArg (fun k => { x with floorBand := k }) (clampNat_eq (by decide) v)) (fun _ _ => rfl)
      · exact act (by decide) (congrArg (fun k => { x with idleTorque := k }) (clampNat_eq (by decide) v)) (fun _ _ => rfl)
      · exact act (by decide) (congrArg (fun k => { x with oilTorque := k }) (clampNat_eq (by decide) v)) (fun _ _ => rfl)
    -- the running threshold (07 R112)
    · intro y r full runs stands
      have hy : x.written v 21 = y := congrArg (fun k => { x with runThreshold := k }) (clampNat_eq (by decide) v)
      have hr : okOr (writeClamped x y 21 v) = r := hy ▸ okOr_writeClamped_plain (by decide)
      have hruns : engineOutcome (set y).ret.settings.runThreshold (set y).ec = .running ↔ runs :=
        engineOutcome_running_iff
      have hstands : engineOutcome (set y).ret.settings.runThreshold (set y).ec = .stopped ↔ stands :=
        engineOutcome_stopped_iff
      refine ⟨fun hyx => ?_, fun hyx hrun hst ha => ?_, fun hyx hrun hst ha hd => ?_, fun hyx hstand hst => ?_,
        fun hyx hrun hstand => ?_⟩
      · exact put (by decide) hy hr (hyx ▸ s.applySetting_same 21)
      · refine put (by decide) hy hr ((State.applySetting_changed hyx).trans ?_)
        exact (State.judgeEngine_starts (s := set y) (hruns.mpr hrun) hst).trans (State.enterWorking_active h.2 ha)
      · refine put (by decide) hy hr ((State.applySetting_changed hyx).trans ?_)
        exact (State.judgeEngine_starts (s := set y) (hruns.mpr hrun) hst).trans (State.enterWorking_idle h.2 ha hd)
      · refine put (by decide) hy hr ((State.applySetting_changed hyx).trans ?_)
        exact State.judgeEngine_stops (s := set y) h.2 (hstands.mpr hstand) hst
      · refine put (by decide) hy hr ((State.applySetting_changed hyx).trans ?_)
        exact State.judgeEngine_same (s := set y) (fun ho => hrun (hruns.mp ho)) (fun ho => hstand (hstands.mp ho))
    -- the pilot activity threshold (07 R111, R113)
    · intro y r lever active begins ends judges
      have hy : x.written v 24 = y := congrArg (fun k => { x with pilotThreshold := k }) (clampNat_eq (by decide) v)
      have hr : okOr (writeClamped x y 24 v) = r := hy ▸ okOr_writeClamped_plain (by decide)
      have hactive : activityNow y s.ec = true ↔ active := activityNow_iff
      have hnot : activityNow y s.ec = false ↔ ¬active := by rw [← hactive, Bool.not_eq_true]
      refine ⟨fun hyx => ?_, fun hyx hb => ?_, fun hyx he => ?_, fun hyx hb he => ⟨fun ha => ?_, fun ha => ?_⟩⟩
      · exact put (by decide) hy hr (hyx ▸ s.applySetting_same 24)
      · obtain ⟨ha, hbefore, hst⟩ := hb
        refine put (by decide) hy hr ((State.applySetting_changed hyx).trans ?_)
        exact State.judgeActivity_begins (s := set y) h.2 (hactive.mpr ha) hbefore hst
      · obtain ⟨ha, hbefore, hst, hd⟩ := he
        refine put (by decide) hy hr ((State.applySetting_changed hyx).trans ?_)
        exact State.judgeActivity_ends (s := set y) h.2 (hnot.mpr ha) hbefore hst hd
      all_goals
        refine put (by decide) hy hr ((State.applySetting_changed hyx).trans ?_)
        have hstays := State.judgeActivity_stays (s := set y) (fun ⟨ha, hrest⟩ => hb ⟨hactive.mp ha, hrest⟩)
          (fun ⟨ha, hrest⟩ => he ⟨hnot.mp ha, hrest⟩)
      · rw [show activityNow (set y).ret.settings (set y).ec = true from hactive.mpr ha] at hstays
        exact hstays
      · rw [show activityNow (set y).ret.settings (set y).ec = false from hnot.mpr ha] at hstays
        exact hstays
    -- the oil derate start (07 R117)
    · intro y r copy hot cool turned
      have hy : x.written v 26 = y := congrArg (fun k => { x with oilStart := k }) (clampNat_eq (by decide) v)
      have hr : okOr (writeClamped x y 26 v) = r := hy ▸ okOr_writeClamped_plain (by decide)
      refine ⟨fun hyx => ?_, fun hyx hhot hl => ?_, fun hyx hcool hl => ?_, fun hyx hhot hcool => ?_⟩
      · exact put (by decide) hy hr (hyx ▸ s.applySetting_same 26)
      · refine put (by decide) hy hr ((State.applySetting_changed hyx).trans ?_)
        exact State.judgeOil_turns (s := set y) h.2 (oilLatchNext_hot hhot) (ne_of_ne_of_eq (by decide) hl.symm)
      · refine put (by decide) hy hr ((State.applySetting_changed hyx).trans ?_)
        exact State.judgeOil_turns (s := set y) h.2 (oilLatchNext_cool hcool) (ne_of_ne_of_eq (by decide) hl.symm)
      · refine put (by decide) hy hr ((State.applySetting_changed hyx).trans ?_)
        exact State.judgeOil_same (s := set y) (oilLatchNext_same hhot hcool)
  · subst hn
    exact retireSetting_putsDefault h.1 ((by decide : ∀ e ∈ _, SettingDefault e) _ hd)
  · have hnone : s.ret.settings.get i.toNat = none := Settings.get_none _ (by simpa [BitVec.toNat_eq] using hi)
    exact ⟨fun p hp => putSetting_badIndex h hnone hp, retireSetting_badIndex h hnone⟩
end

-- ==== Proofs of sitting 1: source records on the wire ====

section
/-! PROOFS. Bytes that were read are written back as they were (11 R182), and the source records that a payload carries
(01 R9). -/

namespace Sys2Proof.Machine

/-! ### Reading and writing back -/

theorem beNat_cons (b : Byte) (l : List Byte) : beNat (b :: l) = b.toNat * 256 ^ l.length + beNat l := by
  have hacc (l : List Byte) (acc : Nat) : l.foldl (fun n b => n * 256 + b.toNat) acc = acc * 256 ^ l.length + beNat l := by
    induction l generalizing acc with
    | nil => simp [beNat]
    | cons c l ih =>
      rw [beNat, List.foldl_cons, List.foldl_cons, ih, ih, List.length_cons]
      ring
  rw [beNat, List.foldl_cons, hacc]
  ring

theorem beNat_lt (l : List Byte) : beNat l < 256 ^ l.length := by
  induction l with
  | nil => simp [beNat]
  | cons b l ih =>
    rw [beNat_cons, List.length_cons, pow_succ]
    have := b.isLt
    nlinarith

/-- Only the last n bytes of a value are written. -/
theorem toBe_add_mul (n a r : Nat) : toBe n (a * 256 ^ n + r) = toBe n r := by
  induction n generalizing a with
  | zero => rfl
  | succ n ih =>
    have hsplit : a * 256 ^ (n + 1) + r = a * 256 * 256 ^ n + r := by ring
    have hhead : BitVec.ofNat 8 ((a * 256 * 256 ^ n + r) / 256 ^ n) = BitVec.ofNat 8 (r / 256 ^ n) := by
      rw [Nat.add_comm, Nat.add_mul_div_right _ _ (by positivity)]
      apply BitVec.eq_of_toNat_eq
      simp [Nat.add_mul_mod_self_right]
    rw [hsplit, toBe, toBe, ih, hhead]

theorem toBe_beNat (l : List Byte) : toBe l.length (beNat l) = l := by
  induction l with
  | nil => rfl
  | cons b l ih =>
    have hhead : (b.toNat * 256 ^ l.length + beNat l) / 256 ^ l.length = b.toNat := by
      rw [Nat.add_comm, Nat.add_mul_div_right _ _ (by positivity), Nat.div_eq_of_lt (beNat_lt l), Nat.zero_add]
    rw [List.length_cons, beNat_cons, toBe, toBe_add_mul, ih, hhead, BitVec.ofNat_toNat, BitVec.setWidth_eq]

theorem toBeInt_beInt (l : List Byte) : toBeInt l.length (beInt l) = l := by
  have hlt : (beNat l : Int) < 256 ^ l.length := by exact_mod_cast beNat_lt l
  have hmod : beInt l % 256 ^ l.length = beNat l := by
    unfold beInt
    dsimp only
    split
    · exact Int.emod_eq_of_lt (by omega) hlt
    · rw [Int.sub_emod_right]
      exact Int.emod_eq_of_lt (by omega) hlt
  rw [toBeInt, hmod, Int.toNat_natCast, toBe_beNat]

/-! ### Fields of a payload -/

theorem field_length {p : List Byte} {o n : Nat} (h : o + n ≤ p.length) : (field p o n).length = n := by
  rw [field, List.length_take, List.length_drop]
  omega

theorem take_field (p : List Byte) (o n : Nat) : p.take (o + n) = p.take o ++ field p o n := List.take_add

theorem toBe_fieldNat {p : List Byte} {o n : Nat} (h : o + n ≤ p.length) : toBe n (fieldNat p o n) = field p o n := by
  have := toBe_beNat (field p o n)
  rwa [field_length h] at this

theorem toBeInt_fieldInt {p : List Byte} {o n : Nat} (h : o + n ≤ p.length) : toBeInt n (fieldInt p o n) = field p o n := by
  have := toBeInt_beInt (field p o n)
  rwa [field_length h] at this

theorem optBe_fieldOpt {p : List Byte} {o n : Nat} (h : o + n ≤ p.length) : optBe n (fieldOpt p o n) = field p o n := by
  rw [← toBe_fieldNat h]
  unfold fieldOpt optBe
  dsimp only
  split
  · next hmark => rw [hmark, Option.getD_none]
  · rfl

/-! ### Source records (01 R9) -/

theorem byteOrderOf_code (o : ByteOrder) : byteOrderOf o.code = some o := by cases o <;> rfl

theorem code_of_byteOrderOf {n : Nat} {o : ByteOrder} (h : byteOrderOf n = some o) : o.code = n := by
  unfold byteOrderOf at h
  split at h <;> cases h <;> rfl

/-- The record that the fields of a payload spell, given its byte order. -/
def sourceFields (p : List Byte) (order : ByteOrder) : SourceRecord :=
  { identifier := fieldOpt p 0 4, offset := fieldNat p 4 1, order, lo := fieldInt p 6 4, hi := fieldInt p 10 4
    timeout := fieldNat p 14 2 }

/-- The checks of R9, as the Machine Bus Port makes them. -/
theorem sourceChecks_iff (i : Nat) (x : SourceRecord) :
    (x.identifier.getD 0 ≤ 536870911 ∧ x.offset ≤ 6 ∧ 20 ≤ x.timeout ∧ x.timeout ≤ 2000 ∧
      (valueRange (sourceSigned i)).1 ≤ x.lo ∧ x.lo ≤ (valueRange (sourceSigned i)).2 ∧
      (valueRange (sourceSigned i)).1 ≤ x.hi ∧ x.hi ≤ (valueRange (sourceSigned i)).2 ∧ x.lo ≤ x.hi) ↔ x.Sound i := by
  have hident : x.identifier.getD 0 ≤ 536870911 ↔ ∀ d ∈ x.identifier, d ≤ 536870911 := by
    cases x.identifier <;> simp
  unfold SourceRecord.Sound sourceSigned valueRange
  rw [hident]
  by_cases hi : i = 6
  · simp only [hi, BEq.rfl, if_true]
    constructor <;> rintro ⟨h1, h2, h3, h4, h5, h6⟩ <;> exact ⟨h1, h2, h3, h4, by omega⟩
  · simp only [beq_eq_false_iff_ne.mpr hi, hi, if_false, Bool.false_eq_true]
    constructor <;> rintro ⟨h1, h2, h3, h4, h5, h6⟩ <;> exact ⟨h1, h2, h3, h4, by omega⟩

theorem sourceOf_eq_some_iff {i : Nat} {p : List Byte} {x : SourceRecord} :
    sourceOf i p = some x ↔ byteOrderOf (fieldNat p 5 1) = some x.order ∧ sourceFields p x.order = x ∧ x.Sound i := by
  unfold sourceOf
  split
  · next hnone => simp [hnone]
  · next order horder =>
    change (if _ then some (sourceFields p order) else none) = some x ↔ _
    rw [horder, Option.some.injEq]
    constructor
    · intro h
      obtain ⟨hchecks, hx⟩ := Option.ite_none_right_eq_some.mp h
      have hx' : sourceFields p order = x := Option.some.inj hx
      subst hx'
      exact ⟨rfl, rfl, (sourceChecks_iff i _).mp hchecks⟩
    · rintro ⟨rfl, hx, hsound⟩
      rw [← hx] at hsound
      exact (if_pos ((sourceChecks_iff i _).mpr hsound)).trans (congrArg some hx)

/-- The fields of a record's payload stand at the offsets of Table 11-4. -/
theorem field_payload (x : SourceRecord) :
    field x.payload 0 4 = optBe 4 x.identifier ∧ field x.payload 4 1 = toBe 1 x.offset ∧
      field x.payload 5 1 = toBe 1 x.order.code ∧ field x.payload 6 4 = toBeInt 4 x.lo ∧
      field x.payload 10 4 = toBeInt 4 x.hi ∧ field x.payload 14 2 = toBe 2 x.timeout := by
  simp only [SourceRecord.payload, field, optBe, toBeInt, toBe, List.cons_append, List.nil_append, List.drop_zero,
    List.drop_succ_cons, List.take_succ_cons, List.take_zero, and_self]

theorem sourceOf_payload {i : Nat} {x : SourceRecord} (h : x.Sound i) : sourceOf i x.payload = some x := by
  obtain ⟨hident, hoffset, -, htimeout, -, hrange⟩ := id h
  have hlo : -2147483648 ≤ 2 * x.lo ∧ 2 * x.lo < 2147483648 := by split at hrange <;> omega
  have hhi : -2147483648 ≤ 2 * x.hi ∧ 2 * x.hi < 2147483648 := by split at hrange <;> omega
  obtain ⟨hfid, hfoff, hforder, hflo, hfhi, hftime⟩ := field_payload x
  have hid : fieldOpt x.payload 0 4 = x.identifier := by
    rw [fieldOpt, fieldNat, hfid]
    cases hx : x.identifier with
    | none => rw [optBe, Option.getD_none, beNat_toBe (by norm_num [absentMark]), if_pos rfl]
    | some d =>
      have hd : d ≤ 536870911 := hident d hx
      rw [optBe, Option.getD_some, beNat_toBe (by norm_num; omega), if_neg (by norm_num [absentMark]; omega)]
  have hoff : fieldNat x.payload 4 1 = x.offset := by rw [fieldNat, hfoff, beNat_toBe (by norm_num; omega)]
  have hcode : fieldNat x.payload 5 1 = x.order.code := by
    rw [fieldNat, hforder, beNat_toBe (by cases x.order <;> decide)]
  have hlow : fieldInt x.payload 6 4 = x.lo := by
    rw [fieldInt, hflo, beInt_toBeInt (by norm_num; omega) (by norm_num; omega)]
  have hhigh : fieldInt x.payload 10 4 = x.hi := by
    rw [fieldInt, hfhi, beInt_toBeInt (by norm_num; omega) (by norm_num; omega)]
  have htime : fieldNat x.payload 14 2 = x.timeout := by rw [fieldNat, hftime, beNat_toBe (by norm_num; omega)]
  refine sourceOf_eq_some_iff.mpr ⟨by rw [hcode, byteOrderOf_code], ?_, h⟩
  simp only [sourceFields, hid, hoff, hlow, hhigh, htime]

/-- A payload of sixteen bytes that passes the checks is that of its record. -/
theorem payload_of_sourceOf {i : Nat} {p : List Byte} (hp : p.length = 16) {x : SourceRecord} (h : sourceOf i p = some x) :
    x.Sound i ∧ p = x.payload := by
  obtain ⟨horder, hx, hsound⟩ := sourceOf_eq_some_iff.mp h
  refine ⟨hsound, ?_⟩
  rw [← hx, SourceRecord.payload]
  simp only [sourceFields]
  rw [optBe_fieldOpt (by omega), toBe_fieldNat (by omega), code_of_byteOrderOf horder, toBe_fieldNat (by omega),
    toBeInt_fieldInt (by omega), toBeInt_fieldInt (by omega), toBe_fieldNat (by omega)]
  calc p = p.take (14 + 2) := (List.take_of_length_le (by omega)).symm
    _ = p.take (0 + 4) ++ field p 4 1 ++ field p 5 1 ++ field p 6 4 ++ field p 10 4 ++ field p 14 2 := by
      rw [take_field p 14 2, take_field p 10 4, take_field p 6 4, take_field p 5 1, take_field p 4 1]
    _ = _ := by rw [take_field p 0 4, List.take_zero, List.nil_append]

end Sys2Proof.Machine
end

-- ==== Proofs of sitting 1: the source slots ====

section
/-! PROOFS. A source slot that runs out or is written: its consumer, its notice and its requests (01 R6 to R10). -/

namespace Sys2Proof.Machine

variable {u w t : State} {i : Nat}

/-! ### What the consumers make of a slot that is not FRESH -/

theorem poseOf_lost {g : Geometry} {pu : Pu} (h : pu.links ≠ [.fresh, .fresh, .fresh]) (a b c : Int) :
    (poseOf g pu a b c).z = none := by
  have hq : poseQuality g pu = .invalid := by simp [poseQuality, h]
  simp [poseOf, hq]

/-- A recompute with a link slot that is not FRESH ends no dig cycle (R43, R48). -/
theorem State.recompute_lost (h : u.pu.links ≠ [.fresh, .fresh, .fresh]) :
    u.recompute = ((u.publish u.nextPose).evaluateLimits).evaluateGrade := by
  have hz : u.nextPose.z = none := poseOf_lost h _ _ _
  have hcycle : digCycle u.ret.geometry u.pu.detector u.nextPose.z = false := by
    rw [hz]
    cases u.pu.detector <;> rfl
  simp only [State.recompute, hcycle, Bool.false_eq_true, if_false]

theorem links_set_lost {links : List SourceState} {st : SourceState} (hl : links.length = 3) (hi : i < 3)
    (hst : st ≠ .fresh) :
    links.set i st ≠ [.fresh, .fresh, .fresh] := by
  intro h
  have hget : (links.set i st)[i]? = some st := by simp [hl, hi]
  rw [h] at hget
  have hmem : st ∈ [SourceState.fresh, .fresh, .fresh] := List.mem_of_getElem? hget
  simp at hmem
  exact hst hmem

/-- A slot that is not FRESH leaves the engine as unknown (R110). -/
theorem engineOutcome_lost {threshold : Nat} {e : Ec} (h : (e.copy 1).state ≠ .fresh) :
    engineOutcome threshold e = .unknown := by
  unfold engineOutcome
  split
  · next hcopy => exact absurd (congrArg SourceCopy.state hcopy) h
  · rfl

theorem oilLatchNext_lost {start : Nat} {copy : SourceCopy} {latch : Bool} (h : copy.state ≠ .fresh) :
    oilLatchNext start copy latch = latch := by
  unfold oilLatchNext
  split
  · exact absurd rfl h
  · rfl

theorem activityNow_lost {x : Settings} {e : Ec} (h : (e.copy 4).state ≠ .fresh) : activityNow x e = true := by
  refine activityNow_iff.mpr (.inl ?_)
  rintro ⟨a, hcopy, -⟩
  exact h (congrArg SourceCopy.state hcopy)

theorem copies_set {copies : List SourceCopy} (hl : copies.length = 5) {k : Nat} (hk : k < 5) (c d : SourceCopy) :
    (copies.set k c).getD k d = c := by
  simp [List.getD_eq_getElem?_getD, hl, hk]

/-- Activity is judged present: a machine that was not active leaves SETTLING and IDLING (R113). -/
theorem State.judgeActivity_present (h : activityNow u.ret.settings u.ec = true) :
    u.judgeActivity =
      if u.ec.active = false ∧ (u.ec.state = .settling ∨ u.ec.state = .idling) then
        (u.judged true).ecoMove .working none none none
      else u.judged true := by
  split
  · next hb =>
    obtain ⟨hbefore, hst | hst⟩ := hb <;>
      simp [State.judgeActivity, State.activityBegins, hbefore, h, hst, State.judged]
  · next hb =>
    have hstays := State.judgeActivity_stays (s := u) (fun hbegins => hb hbegins.2) (fun hends => by simp [h] at hends)
    rwa [h] at hstays

/-- The Economy Controller's copy of a slot, and for FUEL_RATE the previous time, as a report leaves them. -/
def Ec.told (e : Ec) (k : Nat) (c : SourceCopy) (prev : Option Nat) : Ec :=
  { e with copies := e.copies.set k c, prevFuel := prev }

/-- Of a slot that is not FRESH only PILOT_PRESSURE moves the economy (R110, R111, R117, R123). -/
theorem State.ecSource_lost (hc : u.ec.copies.length = 5) (hi : 3 ≤ i ∧ i < 7) {x : SourceSlot} (hx : x.state ≠ .fresh) :
    ∃ prev, u.ecSource i x false = { u with ec := u.ec.told (i - 3) ⟨x.state, x.lastGood⟩ prev } := by
  obtain ⟨h3, h7⟩ := hi
  have hcopy (k : Nat) (hk : k < 5) (prev : Option Nat) :
      ((u.ec.told k ⟨x.state, x.lastGood⟩ prev).copy k).state ≠ .fresh := by
    rw [Ec.copy, Ec.told, copies_set hc hk]
    exact hx
  interval_cases i
  · exact ⟨u.ec.prevFuel, rfl⟩
  · refine ⟨u.ec.prevFuel, State.judgeEngine_same (s := { u with ec := u.ec.told 1 _ u.ec.prevFuel }) ?_ ?_⟩ <;>
      · intro h
        rw [engineOutcome_lost (hcopy 1 (by decide) _)] at h
        cases h
  · by_cases hst : x.state = .never ∨ x.state = .disabled
    · exact ⟨none, if_pos hst⟩
    · exact ⟨u.ec.prevFuel, if_neg hst⟩
  · exact ⟨u.ec.prevFuel, State.judgeOil_same (s := { u with ec := u.ec.told 3 _ u.ec.prevFuel })
      (oilLatchNext_lost (hcopy 3 (by decide) _))⟩

theorem State.ecSource_pilotLost (hc : u.ec.copies.length = 5) {x : SourceSlot} (hx : x.state ≠ .fresh) :
    u.ecSource 7 x false =
      if u.ec.active = false ∧ (u.ec.state = .settling ∨ u.ec.state = .idling) then
        (State.judged { u with ec := u.ec.told 4 ⟨x.state, x.lastGood⟩ u.ec.prevFuel } true).ecoMove .working none none none
      else State.judged { u with ec := u.ec.told 4 ⟨x.state, x.lastGood⟩ u.ec.prevFuel } true := by
  have hcopy : ((u.ec.told 4 ⟨x.state, x.lastGood⟩ u.ec.prevFuel).copy 4).state ≠ .fresh := by
    rw [Ec.copy, Ec.told, copies_set hc (by decide)]
    exact hx
  exact State.judgeActivity_present (u := { u with ec := u.ec.told 4 ⟨x.state, x.lastGood⟩ u.ec.prevFuel })
    (activityNow_lost hcopy)

/-! ### A consumer told of a slot that is not FRESH -/

/-- What a consumer's part reports: a pose published to the Slew Limiter and the Grade Guide, or an economy state entered. -/
def toldReports (i : Nat) (t : State) (before : EconomyState) : List Report :=
  if i < 3 then limitConditions t.slm.record ++ floorConditions t.gg.floor
  else if t.ec.state = before then [] else [.condition 85 false, .condition 55 false]

theorem toldReports_same (hi : 3 ≤ i) {before : EconomyState} (h : t.ec.state = before) : toldReports i t before = [] := by
  rw [toldReports, if_neg (by omega), if_pos h]

theorem toldReports_moved (hi : 3 ≤ i) {before : EconomyState} (h : t.ec.state ≠ before) :
    toldReports i t before = [.condition 85 false, .condition 55 false] := by
  rw [toldReports, if_neg (by omega), if_neg h]

/-- The pose that a change of a link slot publishes, from the slots and the links as they are (R45, R47). -/
def State.toldPose (w : State) (i : Nat) : Pose :=
  poseOf w.ret.geometry { w.pu with links := w.pu.links.set i (w.slot i).state } (w.linkWord 0) (w.linkWord 1) (w.linkWord 2)

/-- `t` is the state `w` once the consumer of slot i has been told of the slot's change of state. -/
structure State.ConsumerTold (t w : State) (i : Nat) : Prop where
  frame : t = { w with
    pu := t.pu, slm := t.slm, gg := t.gg, ec := t.ec, vd := t.vd, inbox := t.inbox
    zt := { w.zt with engaged := t.zt.engaged } }
  links : i < 3 → t.pu.links = w.pu.links.set i (w.slot i).state
  copies : 3 ≤ i → t.ec.copies = w.ec.copies.set (i - 3) ⟨(w.slot i).state, (w.slot i).lastGood⟩
  published : i < 3 → t.pu.pose = w.toldPose i ∧
    t.slm = { held := w.toldPose i, record := limitRecord w.ret w.zt.isOpen (w.toldPose i) } ∧
    t.gg = { held := w.toldPose i, guidance := guidanceOf w.ret (w.toldPose i)
             floor := floorNext w.ret (w.toldPose i) w.gg.floor
             hold := holdNext w.ret (w.toldPose i) w.gg.floor w.gg.hold }
  activity : i = 7 → t.ec.active = true ∧
    (w.ec.active = false ∧ (w.ec.state = .settling ∨ w.ec.state = .idling) →
      t.ec.state = .working ∧ t.ec.autoIdle = none ∧ t.ec.shutdown = none) ∧
    (¬(w.ec.active = false ∧ (w.ec.state = .settling ∨ w.ec.state = .idling)) → t.ec.state = w.ec.state)
  state : i ≠ 7 → t.ec.state = w.ec.state
  inbox : t.inbox = w.inbox ++ toldReports i t w.ec.state

theorem State.puSource_told (hl : w.pu.links.length = 3) (hi : i < 3) (hst : (w.slot i).state ≠ .fresh) :
    (w.puSource i (w.slot i).state).ConsumerTold w i := by
  have heq : w.puSource i (w.slot i).state = _ :=
    State.recompute_lost (u := { w with pu := { w.pu with links := w.pu.links.set i (w.slot i).state } })
      (links_set_lost hl hi hst)
  rw [heq]
  refine ⟨rfl, fun _ => rfl, fun h => by omega, fun _ => ⟨rfl, rfl, rfl⟩, fun h => by omega, fun _ => rfl, ?_⟩
  rw [toldReports, if_pos hi, ← limitReports_eq, ← floorReports_eq, ← List.append_assoc]
  rfl

theorem State.ecSource_told (hc : w.ec.copies.length = 5) (hi : 3 ≤ i ∧ i < 7) (hst : (w.slot i).state ≠ .fresh) :
    (w.ecSource i (w.slot i) false).ConsumerTold w i := by
  obtain ⟨prev, heq⟩ := State.ecSource_lost hc hi hst
  rw [heq]
  refine ⟨rfl, fun h => by omega, fun _ => rfl, fun h => by omega, fun h => by omega, fun _ => rfl, ?_⟩
  exact (List.append_nil _).symm.trans (congrArg (w.inbox ++ ·) (toldReports_same hi.1 rfl).symm)

theorem State.ecSource_pilotTold (hc : w.ec.copies.length = 5) (hst : (w.slot 7).state ≠ .fresh) :
    (w.ecSource 7 (w.slot 7) false).ConsumerTold w 7 := by
  rw [State.ecSource_pilotLost hc hst]
  split
  · next hb =>
    refine ⟨rfl, fun h => by omega, fun _ => rfl, fun h => by omega,
      fun _ => ⟨rfl, fun _ => ⟨rfl, rfl, rfl⟩, fun h => absurd hb h⟩,
      fun h => absurd rfl h, ?_⟩
    have hne : EconomyState.working ≠ w.ec.state := by rcases hb.2 with h | h <;> rw [h] <;> decide
    exact congrArg (w.inbox ++ ·) (toldReports_moved (by decide) hne).symm
  · next hb =>
    refine ⟨rfl, fun h => by omega, fun _ => rfl, fun h => by omega, fun _ => ⟨rfl, fun h => absurd h hb, fun _ => rfl⟩,
      fun h => absurd rfl h, ?_⟩
    exact (List.append_nil _).symm.trans (congrArg (w.inbox ++ ·) (toldReports_same (by decide) rfl).symm)

theorem State.tellConsumer_told (hi : i < 8) (hl : w.pu.links.length = 3) (hc : w.ec.copies.length = 5)
    (hst : (w.slot i).state ≠ .fresh) : (w.tellConsumer i true false).ConsumerTold w i := by
  rcases Nat.lt_or_ge i 3 with h3 | h3
  · rw [State.tellConsumer, if_pos h3]
    exact State.puSource_told hl h3 hst
  · rw [State.tellConsumer, if_neg (by omega)]
    rcases Nat.lt_or_ge i 7 with h7 | h7
    · exact State.ecSource_told hc ⟨h3, h7⟩ hst
    · obtain rfl : i = 7 := by omega
      exact State.ecSource_pilotTold hc hst

/-! ### The state that a change of a slot leaves -/

/-- The other slots stand, and nothing that no consumer governs differs. -/
def State.OtherSlotsStand (t u : State) (i : Nat) : Prop :=
  (∀ j, j ≠ i → t.slot j = u.slot j) ∧
    t = { u with
      ret := { u.ret with sources := t.ret.sources }
      mbp := { u.mbp with slots := t.mbp.slots }
      pu := t.pu, slm := t.slm, gg := t.gg, ec := t.ec, nu := t.nu, vd := t.vd, link := t.link, choice := t.choice
      zt := { u.zt with engaged := t.zt.engaged } }

/-- The consumer of a slot holds a state of it. -/
def State.HoldsState (t : State) (i : Nat) (st : SourceState) : Prop :=
  (i < 3 → t.pu.links.getD i .fresh = st) ∧ (3 ≤ i → (t.ec.copies.getD (i - 3) ⟨.fresh, none⟩).state = st)

/-- What the change of a slot from a state does beyond the slot: notices, a pose, the economy. -/
def State.SlotMoved (t u : State) (i : Nat) (old : SourceState) (own : List Report) : Prop :=
  let same := (t.slot i).state = old
  let p := poseOf t.ret.geometry { u.pu with links := u.pu.links.set i (t.slot i).state }
    (t.linkWord 0) (t.linkWord 1) (t.linkWord 2)
  let idles := u.ec.active = false ∧ (u.ec.state = .settling ∨ u.ec.state = .idling)
  let told : List Report :=
    if i < 3 then (if same then [] else limitConditions t.slm.record ++ floorConditions t.gg.floor)
    else if t.ec.state = u.ec.state then [] else [.condition 85 false, .condition 55 false]
  t.nu.notices = noticesAfter (own ++ told) u.nu.notices ∧
  (i < 3 → ¬same → t.pu.pose = p ∧ t.slm = { held := p, record := limitRecord t.ret u.zt.isOpen p } ∧
    t.gg = { held := p, guidance := guidanceOf t.ret p, floor := floorNext t.ret p u.gg.floor
             hold := holdNext t.ret p u.gg.floor u.gg.hold }) ∧
  (i = 7 → ¬same → t.ec.active = true ∧ (idles → t.ec.state = .working ∧ t.ec.autoIdle = none ∧ t.ec.shutdown = none) ∧
    (¬idles → t.ec.state = u.ec.state)) ∧
  (i ≠ 7 → t.ec.state = u.ec.state)

/-- `w` is the state `u` with slot i as it has become and the slot's own reports on their way. -/
structure State.SlotChanged (w u : State) (i : Nat) (own : List Report) : Prop where
  frame : w = { u with
    ret := { u.ret with sources := w.ret.sources }, mbp := { u.mbp with slots := w.mbp.slots }, inbox := own }
  others : ∀ j, j ≠ i → w.slot j = u.slot j
  lost : (w.slot i).state ≠ .fresh

theorem toldReports_untouched {before : EconomyState} (hi : i < 8) :
    ∀ r ∈ toldReports i t before, r.touches (37 + i) = false := by
  intro r hr
  unfold toldReports at hr
  split at hr
  · simp only [limitConditions, floorConditions, List.cons_append, List.nil_append, List.mem_cons, List.not_mem_nil,
      or_false] at hr
    rcases hr with rfl | rfl | rfl | rfl | rfl | rfl <;> simp [Report.touches] <;> omega
  · split at hr
    · cases hr
    · simp only [List.mem_cons, List.not_mem_nil, or_false] at hr
      rcases hr with rfl | rfl <;> simp [Report.touches] <;> omega

theorem State.eq_of_inbox {t v : State} (h : t = { v with inbox := t.inbox }) (hin : t.inbox = v.inbox) : t = v :=
  h.trans (by rw [hin])

section
variable {own : List Report} {old : SourceState} {x : State} (l : Link)

/-- A slot whose state stands as it was tells nobody. -/
theorem State.SlotChanged.silent (h : w.SlotChanged u i own) (hin : u.inbox = []) (hold : (w.slot i).state = old) :
    State.OtherSlotsStand { w.deliver with link := l } u i ∧ State.SlotMoved { w.deliver with link := l } u i old own := by
  obtain ⟨hw, hothers, -⟩ := h
  obtain ⟨sources, slots, rfl⟩ : ∃ sources slots, w = { u with
    ret := { u.ret with sources := sources }, mbp := { u.mbp with slots := slots }, inbox := own } := ⟨_, _, hw⟩
  refine ⟨⟨hothers, State.eq_of_inbox rfl hin.symm⟩, ?_, fun _ hne => absurd hold hne, fun _ hne => absurd hold hne,
    fun _ => rfl⟩
  refine (State.deliver_notices _).trans (congrArg (fun rs => noticesAfter rs u.nu.notices) ?_)
  refine (List.append_nil own).symm.trans (congrArg (own ++ ·) ?_)
  split
  · exact (if_pos hold).symm
  · exact (if_pos rfl).symm

theorem State.SlotChanged.told (h : w.SlotChanged u i own) (hin : u.inbox = []) (hold : (w.slot i).state ≠ old)
    (hx : x.ConsumerTold w i) :
    State.OtherSlotsStand { x.deliver with link := l } u i ∧ State.SlotMoved { x.deliver with link := l } u i old own := by
  obtain ⟨hw, hothers, -⟩ := h
  obtain ⟨hframe, -, -, hpublished, hactivity, hstate, hreports⟩ := hx
  obtain ⟨pu, slm, gg, ec, vd, engaged, inbox, rfl⟩ : ∃ pu slm gg ec vd engaged inbox, x = { w with
    pu := pu, slm := slm, gg := gg, ec := ec, vd := vd, zt := { w.zt with engaged := engaged }, inbox := inbox } :=
    ⟨_, _, _, _, _, _, _, hframe⟩
  obtain ⟨sources, slots, rfl⟩ : ∃ sources slots, w = { u with
    ret := { u.ret with sources := sources }, mbp := { u.mbp with slots := slots }, inbox := own } := ⟨_, _, hw⟩
  refine ⟨⟨hothers, State.eq_of_inbox rfl hin.symm⟩, ?_, fun h3 _ => hpublished h3, fun h7 _ => hactivity h7, hstate⟩
  refine (State.deliver_notices _).trans (congrArg (fun rs => noticesAfter rs u.nu.notices) (hreports.trans ?_))
  refine congrArg (own ++ ·) ?_
  unfold toldReports
  split
  · exact (if_neg hold).symm
  · rfl

end

theorem State.ConsumerTold.holdsState (h : t.ConsumerTold w i) (hi : i < 8) (hl : w.pu.links.length = 3)
    (hc : w.ec.copies.length = 5) : t.HoldsState i (w.slot i).state := by
  refine ⟨fun h3 => ?_, fun h3 => ?_⟩
  · rw [h.links h3]
    simp [List.getD_eq_getElem?_getD, hl, h3]
  · rw [h.copies h3, copies_set hc (by omega)]

end Sys2Proof.Machine
end

-- ==== Proofs of sitting 1: expiry, PUT and RETIRE of a source slot ====

section
/-! PROOFS. SOURCE_TIMEOUT_EXPIRY, and PUT_ENTRY and RETIRE_ENTRY on SOURCES (01 R6 to R10). -/

namespace Sys2Proof.Machine

section
variable {u w t s : State} {i : Nat} {own : List Report} {old : SourceState}

/-- What holds of a state that a change of slot i from `old` has left, its consumer told where the state has changed. -/
structure State.AfterSlot (t w u : State) (i : Nat) (old : SourceState) (own : List Report) : Prop where
  slot : t.slot i = w.slot i
  sources : t.ret.sources = w.ret.sources
  holds : (w.slot i).state ≠ old → t.HoldsState i (w.slot i).state
  others : t.OtherSlotsStand u i
  moved : t.SlotMoved u i old own

theorem State.tellConsumer_link (s : State) (i : Nat) (c a : Bool) : (s.tellConsumer i c a).link = s.link := by
  rw [State.tellConsumer_frame]

theorem State.SlotChanged.afterSlot (h : w.SlotChanged u i own) (hi : i < 8) (hin : u.inbox = [])
    (hl : u.pu.links.length = 3) (hc : u.ec.copies.length = 5) (old : SourceState) (l : Link) :
    State.AfterSlot { (w.tellConsumer i ((w.slot i).state != old) false).deliver with link := l } w u i old own := by
  obtain ⟨hslots, hsources⟩ := w.tellConsumer_sameSources i ((w.slot i).state != old) false
  have hpu : w.pu = u.pu := (congrArg State.pu h.frame).trans rfl
  have hec : w.ec = u.ec := (congrArg State.ec h.frame).trans rfl
  have hslot : (w.tellConsumer i ((w.slot i).state != old) false).slot i = w.slot i :=
    congrArg (fun slots => slots.getD i disabledSlot) hslots
  by_cases hold : (w.slot i).state = old
  · have hsame : w.tellConsumer i ((w.slot i).state != old) false = w := by
      simp [State.tellConsumer, hold]
    obtain ⟨hothers, hmoved⟩ := h.silent l hin hold
    rw [hsame]
    exact ⟨rfl, rfl, fun hne => absurd hold hne, hothers, hmoved⟩
  · have htold := State.tellConsumer_told (w := w) hi (hpu ▸ hl) (hec ▸ hc) h.lost
    have hholds := htold.holdsState hi (hpu ▸ hl) (hec ▸ hc)
    rw [← (bne_iff_ne.mpr hold : ((w.slot i).state != old) = true)] at htold hholds
    obtain ⟨hothers, hmoved⟩ := h.told l hin hold htold
    exact ⟨hslot, hsources, fun _ => hholds, hothers, hmoved⟩

/-- SOURCE_LOST of a slot is moved by the slot's own reports alone. -/
theorem State.SlotMoved.lostNotice (h : t.SlotMoved u i old own) (hi : i < 8) (hn : u.nu.notices.length = 110) :
    noticeAt t.nu.notices (37 + i) = noticeAt (noticesAfter own u.nu.notices) (37 + i) := by
  rw [h.1, noticesAfter_append]
  refine noticeAt_noticesAfter_untouched (fun r hr => ?_) (by rw [noticesAfter_length]; omega)
  refine toldReports_untouched (t := t) (before := u.ec.state) hi r ?_
  unfold toldReports
  split at hr
  · next h3 =>
    rw [if_pos h3]
    split at hr
    · cases hr
    · exact hr
  · next h3 => rwa [if_neg h3]

theorem noticeAt_sourceLost {ns : List Notice} (hi : i < 8) (hn : ns.length = 110) (present : Bool) :
    noticeAt (noticesAfter [.condition (37 + i) present] ns) (37 + i) =
      { state := if present then (if (noticeAt ns (37 + i)).state = .clear then .raised else (noticeAt ns (37 + i)).state)
          else .clear
        cond := present } := by
  have hfollow : noticeHolds (37 + i) = false := by interval_cases i <;> rfl
  rw [noticeAt_noticesAfter _ (by omega)]
  simp [Report.act, Notice.onCondition, hfollow]

theorem noticeAt_sourceLost_present {ns : List Notice} (hi : i < 8) (hn : ns.length = 110) :
    (noticeAt (noticesAfter [.condition (37 + i) true] ns) (37 + i)).cond = true ∧
      (noticeAt (noticesAfter [.condition (37 + i) true] ns) (37 + i)).state ≠ .clear := by
  rw [noticeAt_sourceLost hi hn]
  refine ⟨rfl, ?_⟩
  by_cases hclear : (noticeAt ns (37 + i)).state = .clear <;> simp [hclear]

/-! ### The requests on SOURCES -/

theorem State.putEntry_sources (s : State) (i : Nat) {p : List Byte} (hp : p.length = 16) :
    s.putEntry 5 i p = s.putSource i p := by
  simp [State.putEntry, tableRefused, putLength, hp]

theorem SourceRecord.payload_length (x : SourceRecord) : x.payload.length = 16 := by
  simp [SourceRecord.payload, optBe, toBe_length, toBeInt_length]

theorem State.putEntry_source (s : State) (hi : i < 8) {x : SourceRecord} (hx : x.Sound i) :
    s.putEntry 5 i x.payload = (s.writeSource i x, .ok, [BitVec.ofNat 8 i]) := by
  rw [State.putEntry_sources _ _ x.payload_length, State.putSource, if_neg (by omega), sourceOf_payload hx]
  rfl

theorem State.putEntry_source_refused (s : State) {p : List Byte} (hp : p.length = 16) (hi : i < 8)
    (h : sourceOf i p = none) :
    s.putEntry 5 i p = (s, .badValue, []) := by
  rw [State.putEntry_sources _ _ hp, State.putSource, if_neg (by omega), h]

/-! ### The two ways a slot changes -/

/-- SOURCE_LOST's report of a slot that is written (R9). -/
def lostReports (i : Nat) (old : SourceState) : List Report := if old = .stale then [.condition (37 + i) false] else []

/-- The state with a record put in place, its slot started over and what the slot itself reports on its way. -/
def State.restarted (s : State) (i : Nat) (x : SourceRecord) : State :=
  ((s.setSource i x).setSlot i (startSlot x)).report (lostReports i (s.slot i).state)

theorem State.restarted_slot (hlen : s.mbp.slots.length = 8) (hi : i < 8) (x : SourceRecord) :
    (s.restarted i x).slot i = startSlot x := by
  have hlen' : (s.setSource i x).mbp.slots.length = 8 := hlen
  exact (State.setSlot_slot (s.setSource i x) i i (startSlot x)).trans (if_pos ⟨rfl, hlen'.symm ▸ hi⟩)

theorem startSlot_state_ne_fresh (x : SourceRecord) : (startSlot x).state ≠ .fresh := by
  unfold startSlot
  split <;> simp [disabledSlot]

theorem State.restarted_changed (hlen : s.mbp.slots.length = 8) (hi : i < 8) (hin : s.inbox = []) (x : SourceRecord) :
    (s.restarted i x).SlotChanged s i (lostReports i (s.slot i).state) where
  frame := by
    simp only [State.restarted, State.report, State.setSlot, State.setSource, hin, List.nil_append]
  others j hj := by
    refine (State.setSlot_slot (s.setSource i x) i j (startSlot x)).trans ?_
    simp [Ne.symm hj, State.setSource_slot]
  lost := by
    rw [State.restarted_slot hlen hi]
    exact startSlot_state_ne_fresh x

/-- A written slot starts over and its consumer is told where its state has changed (R9, R10). -/
theorem State.writeSource_afterSlot (hs : s.SlotsSound) (hin : s.inbox = []) (hl : s.pu.links.length = 3)
    (hc : s.ec.copies.length = 5) (hi : i < 8) (x : SourceRecord) (l : Link) :
    State.AfterSlot { (s.writeSource i x).deliver with link := l } (s.restarted i x) s i (s.slot i).state
      (lostReports i (s.slot i).state) := by
  have hafter := (State.restarted_changed hs.1 hi hin x).afterSlot hi hin hl hc (s.slot i).state l
  rw [State.restarted_slot hs.1 hi] at hafter
  rw [State.writeSource_eq]
  exact hafter

theorem State.writeSource_link (s : State) (i : Nat) (x : SourceRecord) : (s.writeSource i x).link = s.link := by
  rw [State.writeSource_eq, State.tellConsumer_link]
  rfl

theorem State.answer_deliver (u : State) (a : Nat) (r : ResultCode) (p : List Byte) :
    (u.answer a r p).deliver = { u.deliver with link := { u.link with answer := some (.done a r p) } } := rfl

/-- The state with a slot that has run out and SOURCE_LOST on its way. -/
def State.ranOut (s : State) (i : Nat) : State :=
  (s.setSlot i { s.slot i with state := .stale, timer := none }).report [.condition (37 + i) true]

theorem State.ranOut_slot (hlen : s.mbp.slots.length = 8) (hi : i < 8) :
    (s.ranOut i).slot i = { s.slot i with state := .stale, timer := none } := by
  exact (State.setSlot_slot s i i _).trans (if_pos ⟨rfl, hlen.symm ▸ hi⟩)

theorem State.ranOut_changed (hlen : s.mbp.slots.length = 8) (hi : i < 8) (hin : s.inbox = []) :
    (s.ranOut i).SlotChanged s i [.condition (37 + i) true] where
  frame := by
    simp only [State.ranOut, State.report, State.setSlot, hin, List.nil_append]
  others j hj := by
    refine (State.setSlot_slot s i j _).trans ?_
    simp [Ne.symm hj]
  lost := by
    rw [State.ranOut_slot hlen hi]
    simp

/-- A slot that has run out is STALE and its consumer told (R6, R7). -/
theorem State.sourceLost_afterSlot (hlen : s.mbp.slots.length = 8) (hin : s.inbox = []) (hl : s.pu.links.length = 3)
    (hc : s.ec.copies.length = 5) (hi : i < 8) (hold : old ≠ .stale) (l : Link) :
    State.AfterSlot { (s.sourceLost i).deliver with link := l } (s.ranOut i) s i old [.condition (37 + i) true] := by
  have hafter := (State.ranOut_changed hlen hi hin).afterSlot hi hin hl hc old l
  rw [State.ranOut_slot hlen hi, bne_iff_ne.mpr hold.symm] at hafter
  exact hafter

end

end Sys2Proof.Machine

open Sys2Proof Sys2Proof.Machine

/-- Settles O38: a slot that runs out and one that is written are both `State.SlotChanged`, after which the consumer is told
where the slot's state has changed (`State.SlotChanged.afterSlot`). -/
theorem sourceSlotsMove : Obligations.SourceSlotsMove := by
  intro s i h hslots hnotices hcopies hlinks others told ended moves lost
  have hnumber : (BitVec.ofNat 8 i.val).toNat = i.val := by
    rw [BitVec.toNat_ofNat]
    omega
  have hended (t : State) (hmoved : t.SlotMoved s i.val (s.slot i.val).state lost) : ended t := by
    intro hstale
    rw [hmoved.lostNotice i.isLt hnotices]
    simp only [lost, hstale, if_true]
    exact noticeAt_sourceLost i.isLt hnotices false
  have hwrites (x : SourceRecord) (a : Nat) (p : List Byte) :
      ∃ t, ((s.writeSource i.val x).answer a .ok p).deliver = t ∧ t.ret.sources = s.ret.sources.set i.val x ∧
        t.slot i.val = startSlot x ∧ ((s.slot i.val).state ≠ (startSlot x).state → told t (startSlot x).state) ∧ ended t ∧
        others t s ∧ moves t s lost ∧ t.link = { s.link with answer := some (.done a .ok p) } := by
    obtain ⟨hslot, hsources, hholds, hothers, hmoved⟩ := State.writeSource_afterSlot hslots h.2 hlinks hcopies i.isLt x
      { s.link with answer := some (.done a .ok p) }
    rw [State.restarted_slot hslots.1 i.isLt] at hslot hholds
    refine ⟨_, ?_, hsources, hslot, fun hne => hholds hne.symm, hended _ hmoved, hothers, hmoved, rfl⟩
    rw [State.answer_deliver, State.writeSource_link]
  refine ⟨fun left hleft => ?_, fun x hx => ?_, ?_, fun p hp => ⟨fun hnone => ?_, fun b hb => ⟨?_, ?_⟩⟩⟩
  · have htimed : (s.slot i.val).state.timed = true := (hslots.2.2 i.val i.isLt).2.1.mp (by rw [hleft]; rfl)
    have hold : (s.slot i.val).state ≠ .stale := fun hstale => by simp [hstale, SourceState.timed] at htimed
    have hlen : (s.elapse left).mbp.slots.length = 8 := (hslots.elapse left).1
    obtain ⟨hslot, hsources, hholds, hothers, hmoved⟩ :=
      State.sourceLost_afterSlot (s := s.elapse left) hlen h.2 hlinks hcopies i.isLt hold s.link
    rw [State.ranOut_slot hlen i.isLt, State.elapse_slot (by rw [hslots.1]; exact i.isLt)] at hslot hholds
    have hnotice := noticeAt_sourceLost_present (ns := (s.elapse left).nu.notices) i.isLt hnotices
    rw [← hmoved.lostNotice i.isLt hnotices] at hnotice
    obtain ⟨hcond, hstate⟩ := hnotice
    have hlink : ((s.elapse left).sourceLost i.val).link = s.link := State.tellConsumer_link _ _ _ _
    refine ⟨_, State.commit_expire (pick := fun s => (s.slot i.val).timer) h.1 hleft (fun s => s.sourceLost i.val), ?_⟩
    have hdeliver : ((s.elapse left).sourceLost i.val).deliver =
        { ((s.elapse left).sourceLost i.val).deliver with link := s.link } := by
      rw [← hlink]
      rfl
    rw [hdeliver]
    exact ⟨hslot, hsources, hcond, hstate, rfl, hholds hold.symm, hothers, hmoved⟩
  · have hput : s.putEntry (5 : Byte).toNat (BitVec.ofNat 8 i.val).toNat x.payload =
        (s.writeSource i.val x, .ok, [BitVec.ofNat 8 i.val]) := by
      rw [hnumber]
      exact s.putEntry_source i.isLt hx
    obtain ⟨t, ht, hsources, hslot, hholds, hrest⟩ := hwrites x 2 [BitVec.ofNat 8 i.val]
    refine ⟨t, (exec_putEntry h.1 hput).trans (congrArg Host.Outcome.next ht), hsources, hslot, ?_, hrest⟩
    rw [hslot]
    exact hholds
  · have hretire : s.retireEntry (5 : Byte).toNat (BitVec.ofNat 8 i.val).toNat = (s.retireSource i.val, .ok, []) := by
      rw [hnumber]
      exact if_neg (Nat.not_le.mpr i.isLt)
    obtain ⟨t, ht, hsources, hslot, hholds, hrest⟩ := hwrites (defaultSources.getD i.val (sourceDefault 0 0)) 3 []
    have hdefault : startSlot (defaultSources.getD i.val (sourceDefault 0 0)) = disabledSlot := by
      fin_cases i <;> rfl
    rw [hdefault] at hslot hholds
    exact ⟨t, (exec_retireEntry h.1 hretire).trans (congrArg Host.Outcome.next ht), hsources, hslot, hholds, hrest⟩
  · refine exec_putEntry_refused h ?_
    rw [hnumber]
    refine s.putEntry_source_refused hp i.isLt (Option.eq_none_iff_forall_not_mem.mpr fun x hx => ?_)
    obtain ⟨hsound, hpayload⟩ := payload_of_sourceOf hp hx
    exact hnone x hsound hpayload
  · refine exec_putEntry_refused h ?_
    rw [show (5 : Byte).toNat = 5 from rfl, State.putEntry_sources _ _ hp, State.putSource, if_pos hb]
  · exact exec_retireEntry_refused h (if_pos hb)
end

-- ==== Proofs of sitting 2: the slew count's invariant ====

section
/-! PROOFS. The Slew Counter's invariant (02 R18, R20, R26): only a step, an index mark, a write of CPR or the index position and
a start move the count, the travel or their bounds. -/

namespace Sys2Proof.Machine

/-! ### What leaves the count and its bounds alone -/

/-- The count, the travel and their bounds stand as in another state. -/
structure State.SameCount (t s : State) : Prop where
  cpr : t.ret.settings.cpr = s.ret.settings.cpr
  indexPos : t.ret.settings.indexPos = s.ret.settings.indexPos
  count : t.sc.count = s.sc.count
  travel : t.sc.travel = s.sc.travel

theorem State.SameCount.refl (s : State) : s.SameCount s := ⟨rfl, rfl, rfl, rfl⟩

theorem State.SameCount.trans {u t s : State} (h : u.SameCount t) (h' : t.SameCount s) : u.SameCount s :=
  ⟨h.1.trans h'.1, h.2.trans h'.2, h.3.trans h'.3, h.4.trans h'.4⟩

theorem State.CountSound.of_same {t s : State} (h : s.CountSound) (h' : t.SameCount s) : t.CountSound := by
  rw [State.CountSound, h'.cpr, h'.indexPos, h'.count, h'.travel]
  exact h

section
variable (s : State)

theorem State.elapse_sameCount (dt : Nat) : (s.elapse dt).SameCount s := ⟨rfl, rfl, rfl, rfl⟩

theorem State.report_sameCount (rs : List Report) : (s.report rs).SameCount s := ⟨rfl, rfl, rfl, rfl⟩

theorem State.answer_sameCount (code : Nat) (r : ResultCode) (p : List Byte) : (s.answer code r p).SameCount s :=
  ⟨rfl, rfl, rfl, rfl⟩

theorem State.serviceEvent_sameCount (p : ServiceBasis → Bool) (f : Item → Item) : (s.serviceEvent p f).SameCount s := by
  rw [State.serviceEvent_frame]; exact ⟨rfl, rfl, rfl, rfl⟩

theorem State.writeItem_sameCount (i : Nat) (it : Item) : (s.writeItem i it).SameCount s := by
  rw [State.writeItem_frame]; exact ⟨rfl, rfl, rfl, rfl⟩

theorem State.derateReport_sameCount (b : Bool) : (s.derateReport b).SameCount s := by
  rw [State.derateReport_frame]; exact ⟨rfl, rfl, rfl, rfl⟩

theorem State.recompute_sameCount : s.recompute.SameCount s := by
  rw [State.recompute_frame]; exact ⟨rfl, rfl, rfl, rfl⟩

theorem State.puGate_sameCount (phi : Nat) (r : Bool) (w : Int) : (s.puGate phi r w).SameCount s := by
  rw [State.puGate_frame]; exact ⟨rfl, rfl, rfl, rfl⟩

theorem State.ecGate_sameCount (w : Int) : (s.ecGate w).SameCount s := by
  rw [State.ecGate_frame]; exact ⟨rfl, rfl, rfl, rfl⟩

theorem State.tellConsumer_sameCount (i : Nat) (c a : Bool) : (s.tellConsumer i c a).SameCount s := by
  rw [State.tellConsumer_frame]; exact ⟨rfl, rfl, rfl, rfl⟩

theorem State.takeSample_sameCount (f : CanFrame) (i : Nat) : (State.takeSample f s i).SameCount s := by
  unfold State.takeSample State.acceptSample State.refuseSample
  split <;> exact (State.tellConsumer_sameCount _ _ _ _).trans ⟨rfl, rfl, rfl, rfl⟩

theorem State.takeSamples_sameCount (f : CanFrame) (l : List Nat) :
    ∀ s : State, (l.foldl (State.takeSample f) s).SameCount s := by
  induction l with
  | nil => exact State.SameCount.refl
  | cons i l ih => exact fun s => (ih _).trans (s.takeSample_sameCount f i)

theorem State.frameArrives_sameCount (f : CanFrame) : (s.frameArrives f).SameCount s :=
  (State.takeSamples_sameCount f _ _).trans ⟨rfl, rfl, rfl, rfl⟩

theorem State.sourceLost_sameCount (i : Nat) : (s.sourceLost i).SameCount s :=
  (State.tellConsumer_sameCount _ _ _ _).trans ⟨rfl, rfl, rfl, rfl⟩

theorem State.writeSource_sameCount (i : Nat) (x : SourceRecord) : (s.writeSource i x).SameCount s :=
  (State.tellConsumer_sameCount _ _ _ _).trans ⟨rfl, rfl, rfl, rfl⟩

theorem State.periodEnds_sameCount (b : Bool) : (s.periodEnds b).SameCount s := by
  unfold State.periodEnds
  repeat' split
  all_goals exact ⟨rfl, rfl, rfl, rfl⟩

theorem State.attemptEnds_sameCount (b : Bool) : (s.attemptEnds b).SameCount s := by
  unfold State.attemptEnds
  repeat' split
  all_goals exact ⟨rfl, rfl, rfl, rfl⟩

theorem State.closeGate_sameCount (count : Nat) (r : Bool) : (s.closeGate count r).SameCount s := by
  unfold State.closeGate
  dsimp only
  split
  · exact (State.serviceEvent_sameCount _ _ _).trans
      ((State.ecGate_sameCount _ _).trans ((State.puGate_sameCount _ _ _ _).trans ⟨rfl, rfl, rfl, rfl⟩))
  · exact (State.ecGate_sameCount _ _).trans ((State.puGate_sameCount _ _ _ _).trans ⟨rfl, rfl, rfl, rfl⟩)

theorem State.gateExpires_sameCount : s.gateExpires.SameCount s := by
  unfold State.gateExpires
  split <;> exact State.closeGate_sameCount _ _ _

theorem State.completeQuantum_sameCount : s.completeQuantum.SameCount s :=
  (State.serviceEvent_sameCount _ _ _).trans ⟨rfl, rfl, rfl, rfl⟩

theorem State.rampExpires_sameCount (ch : Nat) (l : List Nat) : (s.rampExpires ch l).SameCount s := by
  unfold State.rampExpires
  dsimp only
  split <;> exact ⟨rfl, rfl, rfl, rfl⟩

theorem State.prepare_sameCount : s.prepare.SameCount s := by
  rw [State.prepare_frame]; exact ⟨rfl, rfl, rfl, rfl⟩

theorem State.openZones_sameCount : s.openZones.SameCount s := by
  unfold State.openZones
  split <;> exact ⟨rfl, rfl, rfl, rfl⟩

theorem State.selectTarget_sameCount (i : Nat) : (s.selectTarget i).1.SameCount s := by
  unfold State.selectTarget
  repeat' split
  all_goals exact ⟨rfl, rfl, rfl, rfl⟩

theorem State.selectMode_sameCount (i : Nat) : (s.selectMode i).SameCount s := by
  unfold State.selectMode
  dsimp only
  repeat' split
  all_goals exact ⟨rfl, rfl, rfl, rfl⟩

theorem State.serviceDone_sameCount (i : Nat) : (s.serviceDone i).1.SameCount s := by
  unfold State.serviceDone
  repeat' split
  any_goals exact .refl s
  exact State.writeItem_sameCount _ _ _

theorem State.ackHead_sameCount : s.ackHead.1.SameCount s := by
  unfold State.ackHead
  split <;> exact ⟨rfl, rfl, rfl, rfl⟩

theorem State.ackNotice_sameCount (n : Nat) : (s.ackNotice n).1.SameCount s := by
  unfold State.ackNotice
  repeat' split
  all_goals exact ⟨rfl, rfl, rfl, rfl⟩

theorem State.clearValveFault_sameCount (ch : Nat) : (s.clearValveFault ch).1.SameCount s := by
  unfold State.clearValveFault
  repeat' split
  all_goals exact ⟨rfl, rfl, rfl, rfl⟩

theorem State.driveTest_sameCount (ch c d : Nat) : (s.driveTest ch c d).1.SameCount s := by
  unfold State.driveTest
  repeat' split
  all_goals exact ⟨rfl, rfl, rfl, rfl⟩

theorem State.driveTestStop_sameCount : s.driveTestStop.1.SameCount s := by
  unfold State.driveTestStop
  split <;> exact ⟨rfl, rfl, rfl, rfl⟩

theorem State.writeGeometry_sameCount (g : Geometry) : (s.writeGeometry g).SameCount s :=
  (State.recompute_sameCount _).trans ⟨rfl, rfl, rfl, rfl⟩

theorem State.writeChannel_sameCount (ch : Nat) (c : ChannelConfig) : (s.writeChannel ch c).SameCount s := by
  unfold State.writeChannel
  rw [State.handBack_frame]
  exact ⟨rfl, rfl, rfl, rfl⟩

theorem State.writeMode_sameCount (i : Nat) (m : WorkMode) : (s.writeMode i m).SameCount s := by
  unfold State.writeMode
  dsimp only
  split <;> exact ⟨rfl, rfl, rfl, rfl⟩

/-! ### The requests on tables other than SETTINGS -/

theorem State.putZone_sameCount (i : Nat) (p : List Byte) : (s.putZone i p).1.SameCount s := by
  unfold State.putZone
  dsimp only
  repeat' split
  all_goals exact ⟨rfl, rfl, rfl, rfl⟩

theorem State.retireZone_sameCount (i : Nat) : (s.retireZone i).1.SameCount s := by
  unfold State.retireZone
  dsimp only
  repeat' split
  all_goals exact ⟨rfl, rfl, rfl, rfl⟩

theorem State.putSector_sameCount (i : Nat) (p : List Byte) : (s.putSector i p).1.SameCount s := by
  unfold State.putSector
  dsimp only
  repeat' split
  all_goals exact ⟨rfl, rfl, rfl, rfl⟩

theorem State.retireSector_sameCount (i : Nat) : (s.retireSector i).1.SameCount s := by
  unfold State.retireSector
  repeat' split
  all_goals exact ⟨rfl, rfl, rfl, rfl⟩

theorem State.putSurface_sameCount (i : Nat) (p : List Byte) : (s.putSurface i p).1.SameCount s := by
  unfold State.putSurface
  repeat' split
  all_goals exact ⟨rfl, rfl, rfl, rfl⟩

theorem State.retireSurface_sameCount (i : Nat) : (s.retireSurface i).1.SameCount s := by
  unfold State.retireSurface
  repeat' split
  all_goals exact ⟨rfl, rfl, rfl, rfl⟩

theorem State.putItem_sameCount (i : Nat) (p : List Byte) : (s.putItem i p).1.SameCount s := by
  unfold State.putItem
  repeat' split
  any_goals exact .refl s
  exact State.writeItem_sameCount _ _ _

theorem State.retireItem_sameCount (i : Nat) : (s.retireItem i).1.SameCount s := by
  unfold State.retireItem
  repeat' split
  any_goals exact .refl s
  exact (State.derateReport_sameCount _ _).trans ⟨rfl, rfl, rfl, rfl⟩

theorem State.putSource_sameCount (i : Nat) (p : List Byte) : (s.putSource i p).1.SameCount s := by
  unfold State.putSource
  repeat' split
  any_goals exact .refl s
  exact State.writeSource_sameCount _ _ _

theorem State.retireSourceEntry_sameCount (i : Nat) : (s.retireSourceEntry i).1.SameCount s := by
  unfold State.retireSourceEntry
  split
  · exact .refl s
  · exact s.writeSource_sameCount _ _

theorem State.putMode_sameCount (i : Nat) (p : List Byte) : (s.putMode i p).1.SameCount s := by
  unfold State.putMode
  split
  · exact .refl s
  · exact s.writeMode_sameCount _ _

theorem State.putChannel_sameCount (i : Nat) (p : List Byte) : (s.putChannel i p).1.SameCount s := by
  unfold State.putChannel
  split
  · exact .refl s
  · exact s.writeChannel_sameCount _ _

theorem State.retireChannel_sameCount (i : Nat) : (s.retireChannel i).1.SameCount s := by
  unfold State.retireChannel
  split
  · exact .refl s
  · exact s.writeChannel_sameCount _ _

theorem State.putGeometry_sameCount (i : Nat) (p : List Byte) : (s.putGeometry i p).1.SameCount s := by
  unfold State.putGeometry
  repeat' split
  any_goals exact .refl s
  exact State.writeGeometry_sameCount _ _

theorem State.retireGeometry_sameCount (i : Nat) : (s.retireGeometry i).1.SameCount s := by
  unfold State.retireGeometry
  split
  · exact .refl s
  · exact s.writeGeometry_sameCount _

end

/-! ### Steps and marks -/

section
variable {s : State}

theorem countAfter_lt {cpr count : Nat} (h : count < cpr) (left : Bool) : countAfter cpr count left < cpr := by
  unfold countAfter
  split <;> split <;> omega

theorem State.CountSound.slewStep (h : s.CountSound) (left : Bool) : (s.slewStep left).CountSound := by
  obtain ⟨hcpr, hindex, hcount, htravel⟩ := h
  have htravels : (if indexMissed s.ret.settings.cpr s.sc.travel then 0 else s.sc.travel + 1) ≤ 2 * s.ret.settings.cpr := by
    split
    · exact Nat.zero_le _
    · next hmissed => simpa [indexMissed] using hmissed
  exact ⟨hcpr, hindex, countAfter_lt hcount left, htravels⟩

theorem State.CountSound.indexMark (h : s.CountSound) : s.indexMark.CountSound := by
  obtain ⟨hcpr, hindex, -, -⟩ := h
  exact ⟨hcpr, hindex, hindex, Nat.zero_le _⟩

/-! ### Writes of settings -/

/-- CPR is in its range and the index position within it (R18). -/
abbrev Settings.CountBounds (x : Settings) : Prop := 1000 ≤ x.cpr ∧ x.indexPos < x.cpr

theorem Settings.written_counter (x : Settings) (v : Int) {n : Nat} (hn : n ≠ 3 ∧ n ≠ 4) :
    (x.written v n).cpr = x.cpr ∧ (x.written v n).indexPos = x.indexPos := by
  unfold Settings.written
  split
  case h_4 => exact absurd rfl hn.1
  case h_5 => exact absurd rfl hn.2
  all_goals exact ⟨rfl, rfl⟩

theorem Settings.CountBounds.written {x : Settings} (h : x.CountBounds) (v : Int) (n : Nat) :
    (x.written v n).CountBounds := by
  obtain ⟨hcpr, hindex⟩ := h
  by_cases hn : n = 3 ∨ n = 4
  · rcases hn with rfl | rfl
    · simp only [Settings.CountBounds, Settings.written, clampNat, clampInt]
      omega
    · simp only [Settings.CountBounds, Settings.written, clampNat, clampInt]
      omega
  · obtain ⟨hc, hi⟩ := x.written_counter v (not_or.mp hn)
    rw [Settings.CountBounds, hc, hi]
    exact ⟨hcpr, hindex⟩

/-- No setting but CPR and the index position touches the Slew Counter at once. -/
theorem State.settingChanged_sc (s : State) (before : Settings) {n : Nat} (hn : n ≠ 3 ∧ n ≠ 4) :
    (s.settingChanged before n).sc = s.sc := by
  unfold State.settingChanged
  split
  case h_1 => rw [State.busRejoined_frame]
  case h_2 => rw [State.demandWritten_frame]
  case h_3 => rw [State.demandWritten_frame]
  case h_4 => exact absurd rfl hn.1
  case h_5 => exact absurd rfl hn.2
  case h_15 => rw [State.judgeEngine_frame]
  case h_16 =>
    unfold State.autoIdleWritten
    repeat' split
    all_goals rfl
  case h_17 =>
    unfold State.shutdownWritten
    repeat' split
    all_goals rfl
  case h_18 => rw [State.judgeActivity_frame]
  case h_20 => rw [State.judgeOil_frame]
  all_goals rfl

/-- A write that changes CPR or the index position starts the count over (R19); any other leaves the count and its bounds. -/
theorem State.CountSound.applySetting (h : s.CountSound) (v : Int) (n : Nat) :
    (s.applySetting n (s.ret.settings.written v n)).CountSound := by
  by_cases hx : s.ret.settings.written v n = s.ret.settings
  · rw [hx, State.applySetting_same]
    exact h
  rw [State.applySetting_changed hx]
  by_cases hn : n = 3 ∨ n = 4
  · obtain ⟨hcpr, hindex⟩ := Settings.CountBounds.written ⟨h.1, h.2.1⟩ v n
    have hzero : 0 < (s.ret.settings.written v n).cpr := by omega
    rcases hn with rfl | rfl
    · exact ⟨hcpr, hindex, hzero, Nat.zero_le _⟩
    · exact ⟨hcpr, hindex, hzero, Nat.zero_le _⟩
  · obtain ⟨hcpr, hindex⟩ := s.ret.settings.written_counter v (not_or.mp hn)
    have hsc := State.settingChanged_sc (s.setSettings (s.ret.settings.written v n)) s.ret.settings (not_or.mp hn)
    refine h.of_same ⟨?_, ?_, congrArg Sc.count hsc, congrArg Sc.travel hsc⟩
    · rw [State.settingChanged_ret]; exact hcpr
    · rw [State.settingChanged_ret]; exact hindex

theorem State.CountSound.writeSetting (h : s.CountSound) (n : Nat) (v : Int) : (s.writeSetting n v).1.CountSound := by
  unfold State.writeSetting
  split
  · exact h
  · exact h.applySetting v n

/-! ### The requests on tables -/

theorem State.CountSound.putEntry (h : s.CountSound) (table i : Nat) (p : List Byte) :
    (s.putEntry table i p).1.CountSound := by
  unfold State.putEntry
  split
  · exact h
  split
  · exact h
  split
  · exact h.of_same (s.putZone_sameCount _ _)
  · exact h.of_same (s.putSector_sameCount _ _)
  · exact h.of_same (s.putSurface_sameCount _ _)
  · exact h.of_same (s.putItem_sameCount _ _)
  · exact h.of_same (s.putSource_sameCount _ _)
  · exact h.of_same (s.putMode_sameCount _ _)
  · exact h.of_same (s.putChannel_sameCount _ _)
  · exact h.of_same (s.putGeometry_sameCount _ _)
  · exact h.writeSetting _ _

theorem State.CountSound.retireEntry (h : s.CountSound) (table i : Nat) : (s.retireEntry table i).1.CountSound := by
  unfold State.retireEntry
  split
  · exact h
  split
  · exact h.of_same (s.retireZone_sameCount _)
  · exact h.of_same (s.retireSector_sameCount _)
  · exact h.of_same (s.retireSurface_sameCount _)
  · exact h.of_same (s.retireItem_sameCount _)
  · exact h.of_same (s.retireSourceEntry_sameCount _)
  · exact h
  · exact h.of_same (s.retireChannel_sameCount _)
  · exact h.of_same (s.retireGeometry_sameCount _)
  · exact h.writeSetting _ _

/-! ### Resets and CLEAR_RETAINED -/

/-- A start sets the counter to zero (R32), so the invariant needs only the bounds. -/
theorem State.start_countSound (h : s.ret.settings.CountBounds) (extra : List Report) : (s.start extra).CountSound := by
  obtain ⟨hcpr, hindex⟩ := h
  have hzero : 0 < s.ret.settings.cpr := by omega
  exact ⟨hcpr, hindex, hzero, Nat.zero_le _⟩

theorem State.powerUp_countSound (h : s.ret.settings.CountBounds) : s.powerUp.CountSound := by
  refine State.start_countSound ?_ _
  unfold State.judgeRetained
  dsimp only
  split
  · decide
  · exact h

theorem State.settingDefaults_countSound (l : List Nat) :
    ∀ s : State, s.CountSound → (l.foldl State.settingDefault s).CountSound := by
  induction l with
  | nil => exact fun _ h => h
  | cons n l ih => exact fun s h => ih _ (h.applySetting _ n)

theorem State.retireSources_sameCount (l : List Nat) : ∀ s : State, (l.foldl State.retireSource s).SameCount s := by
  induction l with
  | nil => exact State.SameCount.refl
  | cons i l ih => exact fun s => (ih _).trans (s.writeSource_sameCount i _)

theorem State.channelDefaults_sameCount (l : List Nat) : ∀ s : State, (l.foldl State.channelDefault s).SameCount s := by
  induction l with
  | nil => exact State.SameCount.refl
  | cons ch l ih => exact fun s => (ih _).trans (s.writeChannel_sameCount ch _)

theorem State.clearEconomy_sameCount (s : State) : s.clearEconomy.SameCount s := by
  unfold State.clearEconomy
  refine State.SameCount.trans (t := State.judgeOil _) ⟨rfl, rfl, rfl, rfl⟩ ?_
  rw [State.judgeOil_frame, State.judgeActivity_frame, State.judgeEngine_frame]
  exact ⟨rfl, rfl, rfl, rfl⟩

theorem State.clearZones_sameCount (s : State) : s.clearZones.SameCount s := ⟨rfl, rfl, rfl, rfl⟩
theorem State.clearLimiter_sameCount (s : State) : s.clearLimiter.SameCount s := ⟨rfl, rfl, rfl, rfl⟩
theorem State.clearGrade_sameCount (s : State) : s.clearGrade.SameCount s := ⟨rfl, rfl, rfl, rfl⟩
theorem State.clearService_sameCount (s : State) : s.clearService.SameCount s := ⟨rfl, rfl, rfl, rfl⟩
theorem State.clearNoticeSettings_sameCount (s : State) : s.clearNoticeSettings.SameCount s := ⟨rfl, rfl, rfl, rfl⟩

theorem State.clearValves_sameCount (s : State) : s.clearValves.SameCount s :=
  State.SameCount.trans (t := (List.range 4).foldl State.channelDefault s) ⟨rfl, rfl, rfl, rfl⟩
    (State.channelDefaults_sameCount _ s)

theorem State.CountSound.clearBus (h : s.CountSound) : s.clearBus.CountSound := by
  unfold State.clearBus
  exact State.settingDefaults_countSound _ _ (h.of_same (State.retireSources_sameCount _ s))

theorem State.CountSound.clearSlew (h : s.CountSound) : s.clearSlew.CountSound := by
  unfold State.clearSlew
  exact State.settingDefaults_countSound _ s h

theorem State.CountSound.clearRetained (h : s.CountSound) : s.clearRetained.CountSound := by
  have geometry := h.clearBus.clearSlew.of_same (State.writeGeometry_sameCount _ defaultGeometry)
  have zones := geometry.of_same (State.clearZones_sameCount _)
  have limiter := zones.of_same (State.clearLimiter_sameCount _)
  have grade := limiter.of_same (State.clearGrade_sameCount _)
  have economy := grade.of_same (State.clearEconomy_sameCount _)
  have service := economy.of_same (State.clearService_sameCount _)
  have valves := service.of_same (State.clearValves_sameCount _)
  exact valves.of_same (State.clearNoticeSettings_sameCount _)

/-! ### Every command -/

/-- An effect that keeps the invariant makes a step that keeps it. -/
theorem State.CountSound.commit {t : State} (h : s.CountSound) {f : State → State} (ht : s.commit f = .next t)
    (hf : ∀ u : State, u.CountSound → (f u).CountSound) : t.CountSound := by
  by_cases hp : s.phase = .running
  · rw [State.commit_running hp] at ht; cases ht; exact hf s h
  · rw [State.commit_stopped hp] at ht; cases ht; exact h

theorem State.CountSound.commitPins {t : State} (h : s.CountSound) {p : Pins} {f : State → State}
    (ht : s.commitPins p f = .next t) (hf : ∀ u : State, u.CountSound → (f u).CountSound) : t.CountSound := by
  by_cases hp : s.phase = .running
  · rw [State.commitPins_running hp] at ht; cases ht; exact hf { s with pins := p } h
  · rw [State.commitPins_stopped hp] at ht; cases ht; exact h

/-- An effect that leaves the count and its bounds alone makes a step that keeps the invariant. -/
theorem State.CountSound.commit_same {t : State} (h : s.CountSound) {f : State → State} (ht : s.commit f = .next t)
    (hf : ∀ u : State, (f u).SameCount u) : t.CountSound :=
  h.commit ht fun u hu => hu.of_same (hf u)

theorem State.CountSound.commitPins_same {t : State} (h : s.CountSound) {p : Pins} {f : State → State}
    (ht : s.commitPins p f = .next t) (hf : ∀ u : State, (f u).SameCount u) : t.CountSound :=
  h.commitPins ht fun u hu => hu.of_same (hf u)

theorem State.expire_sameCount (s : State) (timer : Timer) {f : State → State} (hf : ∀ u : State, (f u).SameCount u) :
    (s.expire timer f).SameCount s := by
  cases timer with
  | none => exact .refl s
  | some left => exact (hf _).trans (s.elapse_sameCount left)

theorem State.CountSound.exec {t : State} (h : s.CountSound) (c : Instr) (ht : exec c s = .next t) : t.CountSound := by
  cases c
  all_goals simp only [Machine.exec] at ht
  case frameArrival f =>
    refine h.commit_same ht fun u => ?_
    split
    · exact u.frameArrives_sameCount f
    · exact .refl u
  case sourceTimeoutExpiry slot => exact h.commit_same ht fun u => u.expire_sameCount _ fun v => v.sourceLost_sameCount _
  case periodTimerExpiry b => exact h.commit_same ht fun u => u.expire_sameCount _ fun v => v.periodEnds_sameCount b
  case transmissionAttemptEnd b => exact h.commit_same ht fun u => u.attemptEnds_sameCount b
  case recoveryTimerExpiry => exact h.commit_same ht fun u => u.expire_sameCount _ fun _ => ⟨rfl, rfl, rfl, rfl⟩
  case slewStep a b =>
    refine h.commitPins ht fun u hu => ?_
    split
    · exact hu.slewStep true
    · exact hu.slewStep false
    · exact hu
  case indexMark =>
    refine h.commitPins ht fun u hu => ?_
    split
    · exact hu
    · exact hu.indexMark
  case gateTimerExpiry => exact h.commit_same ht fun u => u.expire_sameCount _ fun v => v.gateExpires_sameCount
  case editTimerExpiry => exact h.commit_same ht fun u => u.expire_sameCount _ fun _ => ⟨rfl, rfl, rfl, rfl⟩
  case holdTimerExpiry =>
    refine h.commit_same ht fun u => u.expire_sameCount _ fun v => ?_
    split <;> exact ⟨rfl, rfl, rfl, rfl⟩
  case autoIdleTimerExpiry =>
    refine h.commit_same ht fun u => u.expire_sameCount _ fun v => ?_
    split <;> exact ⟨rfl, rfl, rfl, rfl⟩
  case shutdownTimerLeft =>
    refine h.commit_same ht fun u => ?_
    split
    · exact .refl u
    split
    · exact .refl u
    · exact (State.report_sameCount _ _).trans (u.elapse_sameCount _)
  case shutdownTimerExpiry =>
    refine h.commit_same ht fun u => u.expire_sameCount _ fun v => ?_
    split <;> exact ⟨rfl, rfl, rfl, rfl⟩
  case shutdownWaitExpiry =>
    refine h.commit_same ht fun u => u.expire_sameCount _ fun v => ?_
    split <;> exact ⟨rfl, rfl, rfl, rfl⟩
  case quantumCompletion =>
    refine h.commit_same ht fun u => ?_
    split
    · exact (State.completeQuantum_sameCount _).trans (u.elapse_sameCount _)
    · exact .refl u
  case flashTimerExpiry lamp => exact h.commit_same ht fun u => u.expire_sameCount _ fun _ => ⟨rfl, rfl, rfl, rfl⟩
  case stretchTimerExpiry lamp => exact h.commit_same ht fun u => u.expire_sameCount _ fun _ => ⟨rfl, rfl, rfl, rfl⟩
  case rampIntervalExpiry ch l => exact h.commit_same ht fun u => u.expire_sameCount _ fun v => v.rampExpires_sameCount _ _
  case overCurrent ch i =>
    refine h.commit_same ht fun u => ?_
    split <;> exact ⟨rfl, rfl, rfl, rfl⟩
  case supplyVoltageChange v => exact h.commitPins_same ht fun _ => ⟨rfl, rfl, rfl, rfl⟩
  case downQualificationExpiry => exact h.commit_same ht fun u => u.expire_sameCount _ fun _ => ⟨rfl, rfl, rfl, rfl⟩
  case upQualificationExpiry => exact h.commit_same ht fun u => u.expire_sameCount _ fun _ => ⟨rfl, rfl, rfl, rfl⟩
  case durationTimerExpiry => exact h.commit_same ht fun u => u.expire_sameCount _ fun _ => ⟨rfl, rfl, rfl, rfl⟩
  case serviceKeyRelease => exact h.commitPins_same ht fun _ => ⟨rfl, rfl, rfl, rfl⟩
  case transactionStart =>
    refine h.commitPins_same ht fun u => ?_
    split <;> exact ⟨rfl, rfl, rfl, rfl⟩
  case transactionEnd sdi => exact h.commitPins_same ht fun _ => ⟨rfl, rfl, rfl, rfl⟩
  case responseReady => exact h.commit_same ht fun u => u.prepare_sameCount
  case putEntry table i p =>
    exact h.commit ht fun u hu => (hu.putEntry table.toNat i.toNat p).of_same (State.answer_sameCount _ _ _ _)
  case retireEntry table i =>
    exact h.commit ht fun u hu => (hu.retireEntry table.toNat i.toNat).of_same (State.answer_sameCount _ _ _ _)
  case openZones => exact h.commit_same ht fun u => (State.answer_sameCount _ _ _ _).trans u.openZones_sameCount
  case closeZones =>
    refine h.commit_same ht fun u => ?_
    split <;> exact ⟨rfl, rfl, rfl, rfl⟩
  case selectTarget i => exact h.commit_same ht fun u => (State.answer_sameCount _ _ _ _).trans (u.selectTarget_sameCount _)
  case setWorkMode i =>
    refine h.commit_same ht fun u => ?_
    split
    · exact (State.answer_sameCount _ _ _ _).trans (u.selectMode_sameCount _)
    · exact u.answer_sameCount _ _ _
  case serviceDone i => exact h.commit_same ht fun u => (State.answer_sameCount _ _ _ _).trans (u.serviceDone_sameCount _)
  case ackHead => exact h.commit_same ht fun u => (State.answer_sameCount _ _ _ _).trans u.ackHead_sameCount
  case ackNotice n => exact h.commit_same ht fun u => (State.answer_sameCount _ _ _ _).trans (u.ackNotice_sameCount _)
  case ackAll => exact h.commit_same ht fun _ => ⟨rfl, rfl, rfl, rfl⟩
  case clearShift => exact h.commit_same ht fun _ => ⟨rfl, rfl, rfl, rfl⟩
  case clearValveFault ch =>
    exact h.commit_same ht fun u => (State.answer_sameCount _ _ _ _).trans (u.clearValveFault_sameCount _)
  case driveTest ch c d =>
    exact h.commit_same ht fun u => (State.answer_sameCount _ _ _ _).trans (u.driveTest_sameCount _ _ _)
  case driveTestStop => exact h.commit_same ht fun u => (State.answer_sameCount _ _ _ _).trans u.driveTestStop_sameCount
  case clearRetained =>
    refine h.commit ht fun u hu => State.CountSound.of_same (s := u.clearRetainedRequest.1) ?_ (State.answer_sameCount _ _ _ _)
    unfold State.clearRetainedRequest
    split
    · exact hu
    split
    · exact hu
    · exact hu.clearRetained
  case restart =>
    cases ht
    split
    · exact State.start_countSound ⟨h.1, h.2.1⟩ _
    · exact h
  case resetNAsserted =>
    cases ht
    split <;> exact h.of_same ⟨rfl, rfl, rfl, rfl⟩
  case reset =>
    cases ht
    split
    · exact h.of_same ⟨rfl, rfl, rfl, rfl⟩
    · exact State.start_countSound (s := s.setResetLow false) ⟨h.1, h.2.1⟩ _
  case powerOn =>
    cases ht
    split
    · exact (State.powerUp_countSound ⟨h.1, h.2.1⟩).of_same ⟨rfl, rfl, rfl, rfl⟩
    · exact State.powerUp_countSound ⟨h.1, h.2.1⟩
  case powerLoss => cases ht; exact h.of_same ⟨rfl, rfl, rfl, rfl⟩
  case backupDropped =>
    cases ht
    split <;> exact h.of_same ⟨rfl, rfl, rfl, rfl⟩
  case serviceKeyAsserted => exact h.commitPins_same ht fun u => .refl u
  case slewZFall => exact h.commitPins_same ht fun u => .refl u
  all_goals exact h.commit_same ht fun _ => ⟨rfl, rfl, rfl, rfl⟩

/-- A step keeps the invariant: a command does, and so does a tick, which only runs timers down. -/
theorem State.CountSound.step {t : State} (h : s.CountSound) (ht : step s = .next t) : t.CountSound := by
  unfold Machine.step at ht
  split at ht
  · cases ht
    unfold State.idle
    split
    · exact h.of_same (s.elapse_sameCount 1)
    · exact h
  · next c rest _ => exact State.CountSound.exec (s := { s with pending := rest }) (h.of_same ⟨rfl, rfl, rfl, rfl⟩) c ht

end

end Sys2Proof.Machine

open Sys2Proof.Machine in
/-- Settles O17: a step or a mark keeps the count and the travel within their bounds (R20, R23, R26), a write that moves a bound
starts the count over (R19), and every other command leaves all four as they were. -/
theorem countKept : Obligations.CountKept := fun _ _ h ht => h.step ht
end

-- ==== Proofs of sitting 2: the state right after reset ====

section
/-! PROOFS. The state right after reset is sound. -/

open Sys2Proof.Machine

/-- Settles O3: the reset state is closed, so each invariant is a finite fact about it. -/
theorem resetMeetsInvariants : Obligations.ResetMeetsInvariants := by
  have nu : State.reset.nu.Sound := by decide +kernel
  have meters : State.reset.ret.MetersSound := by decide
  have items : State.reset.ret.ItemsSound := by decide
  have torque : State.reset.TorqueSound := by decide
  have drive : State.reset.DriveSound := by decide
  have targets : State.reset.TargetsSound := by decide
  have poses : State.reset.PosesSound := by decide
  have slots : State.reset.SlotsSound := by decide
  have count : State.reset.CountSound := by decide
  have timers : State.reset.TimersSound := by decide
  have test : State.reset.TestSound := by decide
  have ready : State.reset.Ready := ⟨rfl, rfl⟩
  exact ⟨nu, meters, items, torque, drive, targets, poses, slots, count, timers, test, ready⟩
end

-- ==== Proofs of sitting 2: steps and index marks ====

section
/-! PROOFS. STEP, INDEX_MARK and SLEW_Z_FALL (02 R20 to R23, R26, R27). -/

namespace Sys2Proof.Machine

/-! ### The quadrature cycle -/

/-- The pairs of levels in the order of a LEFT turn (R20). -/
def quadratureCycle : List (Bool × Bool) := [(false, false), (true, false), (true, true), (false, true)]

theorem quadrature_of_cycle {a b : Bool} {i : Nat} (hi : i < 4) (h : (a, b) = quadratureCycle.getD i (false, false)) :
    quadrature a b = i := by
  interval_cases i <;> cases h <;> rfl

section
variable {a b a' b' : Bool} {i : Nat}

theorem stepOf_left (h : quadrature a b = i) (h' : quadrature a' b' = (i + 1) % 4) : stepOf a b a' b' = some .left := by
  subst h
  revert a b a' b'
  decide

theorem stepOf_right (h : quadrature a b = i) (h' : quadrature a' b' = (i + 3) % 4) : stepOf a b a' b' = some .right := by
  subst h
  revert a b a' b'
  decide

theorem stepOf_none (h : quadrature a b = i) (h' : quadrature a' b' = i ∨ quadrature a' b' = (i + 2) % 4) :
    stepOf a b a' b' = none := by
  subst h
  revert a b a' b'
  decide

end

/-! ### One step -/

section
variable {s : State}

theorem countAfter_left {cpr count : Nat} (h : count < cpr) :
    countAfter cpr count true = if count + 1 = cpr then 0 else count + 1 := by
  have hiff : cpr ≤ count + 1 ↔ count + 1 = cpr := by omega
  simp [countAfter, hiff]

/-- The state after a step, before the index is found missing (R20, R21, R26). -/
def State.moved (s : State) (count : Nat) (way : Int) : State :=
  { s with sc := { s.sc with count := count, travel := s.sc.travel + 1, gateAcc := s.sc.gateAcc + way } }

/-- The state once the index is found missing (R26). -/
def State.indexLost (s : State) : State :=
  { s with sc := { s.sc with travel := 0, referenced := false }, inbox := [.cause 7 false, .condition 35 true] }

theorem State.slewStep_eq (hin : s.inbox = []) {left : Bool} {count : Nat} {way : Int}
    (hcount : countAfter s.ret.settings.cpr s.sc.count left = count) (hway : (if left then 1 else -1) = way) :
    s.slewStep left =
      if s.sc.travel < 2 * s.ret.settings.cpr then s.moved count way else (s.moved count way).indexLost := by
  subst hcount hway
  split
  · next h =>
    have hmissed : indexMissed s.ret.settings.cpr s.sc.travel = false := by simp [indexMissed]; omega
    simp [State.slewStep, State.moved, State.report, hmissed]
  · next h =>
    have hmissed : indexMissed s.ret.settings.cpr s.sc.travel = true := by simp [indexMissed]; omega
    simp [State.slewStep, State.moved, State.indexLost, State.report, hmissed, hin, noticeIndexMissing,
      noticeSlewUnreferenced]

/-- A step that misses no index makes no report. -/
theorem State.slewStep_deliver (hin : s.inbox = []) {left : Bool} {count : Nat} {way : Int}
    (hcount : countAfter s.ret.settings.cpr s.sc.count left = count) (hway : (if left then 1 else -1) = way) :
    (s.slewStep left).deliver =
      if s.sc.travel < 2 * s.ret.settings.cpr then s.moved count way else (s.moved count way).indexLost.deliver := by
  rw [State.slewStep_eq hin hcount hway, apply_ite State.deliver, State.deliver_none (s := s.moved count way) hin]

/-- The levels of SLEW_A and SLEW_B. -/
def State.atPair (s : State) (a b : Bool) : State := { s with pins := { s.pins with slewA := a, slewB := b } }

section
variable {a b : Bool}

theorem exec_slewStep_left (hrun : s.phase = .running) (h : stepOf s.pins.slewA s.pins.slewB a b = some .left) :
    exec (.slewStep a b) s = .next ((s.atPair a b).slewStep true).deliver := by
  simp only [exec, execSlewStep, State.commitPins_running hrun, h, State.atPair]

theorem exec_slewStep_right (hrun : s.phase = .running) (h : stepOf s.pins.slewA s.pins.slewB a b = some .right) :
    exec (.slewStep a b) s = .next ((s.atPair a b).slewStep false).deliver := by
  simp only [exec, execSlewStep, State.commitPins_running hrun, h, State.atPair]

theorem exec_slewStep_none (hrun : s.phase = .running) (h : stepOf s.pins.slewA s.pins.slewB a b = none) :
    exec (.slewStep a b) s = .next (s.atPair a b).deliver := by
  simp only [exec, execSlewStep, State.commitPins_running hrun, h, State.atPair]

end

/-! ### The index mark -/

/-- The difference of a count from the index position, as the statement folds it (R23). -/
theorem indexDifference_natAbs {cpr indexPos count : Nat} (hindex : indexPos < cpr) (hcount : count < cpr) :
    (indexDifference cpr indexPos count).natAbs =
      let e := (count + cpr - indexPos) % cpr
      if 2 * e ≤ cpr then e else cpr - e := by
  have he : ((count : Int) - indexPos) % cpr = ((count + cpr - indexPos) % cpr : Nat) := by
    rw [Int.natCast_emod, Int.natCast_sub (by omega), Int.natCast_add, add_sub_right_comm, Int.add_emod_right]
  have hlt : (count + cpr - indexPos) % cpr < cpr := Nat.mod_lt _ (by omega)
  simp only [indexDifference, he]
  generalize (count + cpr - indexPos) % cpr = e at hlt
  split <;> split <;> omega

/-- The level of SLEW_Z is high. -/
def State.atMark (s : State) : State := { s with pins := { s.pins with slewZ := true } }

theorem exec_indexMark (h : s.Ready) :
    exec .indexMark s = .next (if s.pins.slewZ then s else s.atMark.indexMark.deliver) := by
  obtain ⟨hrun, hin⟩ := h
  simp only [exec, execIndexMark, State.commitPins_running hrun]
  split
  · next hz =>
    have hpins : { s.pins with slewZ := true } = s.pins := by rw [← hz]
    rw [hpins]
    exact congrArg Host.Outcome.next (State.deliver_none hin)
  · rfl

/-- The count is loaded from the index position (R23). -/
def State.loaded (s : State) : State :=
  { s with sc := { s.sc with count := s.ret.settings.indexPos, referenced := true, travel := 0 } }

theorem State.indexMark_first (hin : s.inbox = []) (h : s.sc.referenced = false) :
    s.indexMark = { s.loaded with inbox := [.condition 35 false] } := by
  simp [State.indexMark, State.loaded, State.report, hin, h, noticeSlewUnreferenced]

/-- The difference of the count from the index position, the nearer way round (R23). -/
abbrev State.slip (s : State) : Nat := (indexDifference s.ret.settings.cpr s.ret.settings.indexPos s.sc.count).natAbs

theorem State.indexMark_near (h : s.sc.referenced = true) (hslip : s.slip ≤ s.ret.settings.slipTol) :
    s.indexMark = s.loaded := by
  simp [State.indexMark, State.loaded, State.report, h, Nat.not_lt.mpr hslip]

theorem State.indexMark_slipped (hin : s.inbox = []) (h : s.sc.referenced = true) (hslip : s.ret.settings.slipTol < s.slip) :
    s.indexMark = { s.loaded with inbox := [.cause 6 false] } := by
  simp [State.indexMark, State.loaded, State.report, hin, h, hslip, noticeSlewSlip]

end

end Sys2Proof.Machine

open Sys2Proof Sys2Proof.Machine

/-- Settles O34: the places of the two pairs in the cycle give the step (`stepOf`), which moves the count and the travel as
`State.slewStep_deliver` says. -/
theorem stepMovesCount : Obligations.StepMovesCount := by
  rintro s a b i ⟨hrun, hin⟩ ⟨-, -, hcount, -⟩ hi cycle cpr moved missed after hfrom
  have hplace : quadrature s.pins.slewA s.pins.slewB = i := quadrature_of_cycle hi hfrom
  have hto {j : Nat} (h : (a, b) = cycle.getD (j % 4) (false, false)) : quadrature a b = j % 4 :=
    quadrature_of_cycle (Nat.mod_lt _ (by decide)) h
  refine ⟨fun h => ?_, fun h => ?_, fun h => ?_⟩
  · exact (exec_slewStep_left hrun (stepOf_left hplace (hto h))).trans (congrArg Host.Outcome.next
      (State.slewStep_deliver (s := s.atPair a b) hin (countAfter_left hcount) rfl))
  · exact (exec_slewStep_right hrun (stepOf_right hplace (hto h))).trans (congrArg Host.Outcome.next
      (State.slewStep_deliver (s := s.atPair a b) hin rfl rfl))
  · have hnone : quadrature a b = i ∨ quadrature a b = (i + 2) % 4 := h.imp (quadrature_of_cycle hi) hto
    exact (exec_slewStep_none hrun (stepOf_none hplace hnone)).trans (congrArg Host.Outcome.next
      (State.deliver_none (s := s.atPair a b) hin))

/-- Settles O35: the mark is taken at a rise of SLEW_Z alone, and its report follows the reference state and the difference
folded to the nearer way (`indexDifference_natAbs`). -/
theorem indexMarkLoadsCount : Obligations.IndexMarkLoadsCount := by
  rintro s ⟨hrun, hin⟩ ⟨-, hindex, hcount, -⟩ x e far t
  have hslip : s.slip = far := indexDifference_natAbs hindex hcount
  have hmark (hz : s.pins.slewZ = false) {u : State} (hu : s.atMark.indexMark = u) :
      exec .indexMark s = .next u.deliver := by
    rw [exec_indexMark ⟨hrun, hin⟩, hu, hz]
    rfl
  refine ⟨fun hz href => ?_, fun hz href hnear => ?_, fun hz href hfar => ?_, fun hz => ?_, ?_⟩
  · exact hmark hz (State.indexMark_first (s := s.atMark) hin href)
  · exact (hmark hz (State.indexMark_near (s := s.atMark) href (hslip.trans_le hnear))).trans
      (congrArg Host.Outcome.next (State.deliver_none hin))
  · exact hmark hz (State.indexMark_slipped (s := s.atMark) hin href (hfar.trans_eq hslip.symm))
  · rw [exec_indexMark ⟨hrun, hin⟩, if_pos hz]
  · exact (State.commitPins_running hrun _ _).trans (congrArg Host.Outcome.next (State.deliver_none hin))
end

-- ==== Proofs of sitting 2: targets, cycles and the economy at a gate ====

section
/-! PROOFS. GATE_TIMER_EXPIRY (02 R19, R28 to R31): what the gate gives, whom it reaches, and the write that falls together
with it (log entry 33). -/

namespace Sys2Proof.Machine

/-! ### Targets handed to the channels (10 R162) -/

section
variable (v : Vd) {c ch owner : Nat}

theorem Vd.hand_chan_same (h : c < v.chans.length) : (v.hand c owner).chan c = { v.chan c with owner := owner } := by
  simp [Vd.hand, Vd.setChan, Vd.chan, List.getD_eq_getElem?_getD, h]

theorem Vd.hand_chan_other (h : c ≠ ch) : (v.hand c owner).chan ch = v.chan ch := by
  simp [Vd.hand, Vd.setChan, Vd.chan, List.getD_eq_getElem?_getD, h]

theorem Vd.hand_length : (v.hand c owner).chans.length = v.chans.length := List.length_set

/-- A channel handed the target that it holds stands as it was. -/
theorem Vd.hand_self (c : Nat) : v.hand c (v.chan c).owner = v := by
  have hchans : v.chans.set c (v.chan c) = v.chans := by
    refine List.ext_getElem? fun i => ?_
    by_cases hi : c = i
    · subst hi
      by_cases hc : c < v.chans.length <;> simp [Vd.chan, List.getD_eq_getElem?_getD, hc]
    · simp [hi]
  rw [Vd.hand, Vd.setChan]
  exact congrArg (fun chans => { v with chans := chans }) hchans

/-- Of the channels nothing but owners' targets differs. -/
def Vd.OwnersOnly (v' v : Vd) : Prop := ∀ ch, v'.chan ch = { v.chan ch with owner := (v'.chan ch).owner }

theorem Vd.OwnersOnly.refl : v.OwnersOnly v := fun _ => rfl

theorem Vd.OwnersOnly.hand {v' v : Vd} (h : v'.OwnersOnly v) (c owner : Nat) : (v'.hand c owner).OwnersOnly v := by
  intro ch
  by_cases hch : c = ch
  · subst hch
    by_cases hc : c < v'.chans.length
    · rw [v'.hand_chan_same hc, h c]
    · have hout : v'.hand c owner = v' := by
        simp [Vd.hand, Vd.setChan, List.set_eq_of_length_le (Nat.not_lt.mp hc)]
      rw [hout]
      exact h c
  · rw [v'.hand_chan_other hch]
    exact h ch

end

/-! ### T worked out -/

/-- T and the target of channel 3 are as given. -/
def State.withTorque (s : State) (torque target : Nat) : State :=
  { s with ec := { s.ec with torque := torque }, vd := s.vd.hand 3 target }

theorem State.withTorque_self (s : State) : s.withTorque s.ec.torque (s.vd.chan 3).owner = s := by
  rw [State.withTorque, Vd.hand_self]

theorem State.workOutTorque_withTorque (s : State) : ∃ torque target, s.workOutTorque = s.withTorque torque target := by
  unfold State.workOutTorque
  split
  · exact ⟨torqueLimit s.ret s.ec.state s.ec.oilLatch, (s.vd.chan 3).owner, by rw [State.withTorque, Vd.hand_self]⟩
  · exact ⟨_, _, rfl⟩

theorem State.derateReport_withTorque (s : State) (due : Bool) :
    ∃ torque target, s.derateReport due = s.withTorque torque target := by
  cases due
  · exact ⟨_, _, s.withTorque_self.symm⟩
  · exact s.workOutTorque_withTorque

/-! ### Cycles counted by the items on a basis (08 R133) -/

/-- One cycle is added to a cycle item and its state evaluated (R131, R133). -/
def Item.cycled (it : Item) : Item :=
  { it with
    cycles := it.cycles.map (fun n => min 4294967295 (n + 1))
    state := itemStateOf it.interval it.lead it.grace ((it.cycles.map (fun n => min 4294967295 (n + 1))).getD 0) }

theorem Item.addCycle_evaluated {it : Item} (h : it.basis.hours = false) (r : Retained) :
    it.addCycle.evaluated r = it.cycled := by
  simp [Item.evaluated, Item.addCycle, Item.progress, Item.cycled, h, cyclesTop]

/-- The table once a cycle, where one is due, has been counted by the items on a basis. -/
def cycledOn (b : ServiceBasis) (due : Bool) (items : List (Option Item)) : List (Option Item) :=
  items.map (Option.map (fun it => if due = true ∧ it.basis = b then it.cycled else it))

theorem cycledOn_length (b : ServiceBasis) (due : Bool) (items : List (Option Item)) :
    (cycledOn b due items).length = items.length := List.length_map _

theorem cycledOn_getD (b : ServiceBasis) (due : Bool) (items : List (Option Item)) (i : Nat) :
    (cycledOn b due items).getD i none =
      (items.getD i none).map (fun it => if due = true ∧ it.basis = b then it.cycled else it) := by
  simp only [cycledOn, List.getD_eq_getElem?_getD, List.getElem?_map]
  cases items[i]? <;> rfl

theorem cycledOn_false (b : ServiceBasis) (items : List (Option Item)) : cycledOn b false items = items := by
  simp [cycledOn]

theorem itemConditions_same (i : Nat) (st : Option ItemState) : itemConditions i st st = [] := by
  by_cases h : st = some .critical <;> simp [itemConditions, h]

theorem tableReports_same (items : List (Option Item)) : tableReports items items = [] := by
  simp [tableReports, itemReports_eq, itemConditions_same]

/-- The state with a cycle counted, where one is due, and its moves reported (R134). -/
def State.cycled (s : State) (b : ServiceBasis) (due : Bool) : State :=
  { s with
    ret := { s.ret with items := cycledOn b due s.ret.items }
    inbox := s.inbox ++ tableReports s.ret.items (cycledOn b due s.ret.items) }

theorem State.serviceEvent_cycled (s : State) {b : ServiceBasis} (hb : b.hours = false) (due : Bool) :
    ∃ torque target,
      (if due then s.serviceEvent (· == b) Item.addCycle else s) = (s.cycled b due).withTorque torque target := by
  cases due
  · have hsame : s.cycled b false = s := by simp [State.cycled, cycledOn_false, tableReports_same]
    rw [hsame]
    exact ⟨_, _, s.withTorque_self.symm⟩
  · have hitems : s.ret.items.map (fun e => e.map (fun it =>
        if (it.basis == b) = true then it.addCycle.evaluated s.ret else it)) = cycledOn b true s.ret.items := by
      refine List.map_congr_left fun e _ => ?_
      cases e with
      | none => rfl
      | some it =>
        by_cases hit : it.basis = b
        · simp [hit, Item.addCycle_evaluated (it := it) (hit ▸ hb)]
        · simp [hit]
    simp only [if_true, State.serviceEvent, hitems]
    exact State.derateReport_withTorque _ _

/-- The reports of a count are those of the moves of its items, which no other count moves. -/
theorem tableReports_eq {concerns : ServiceBasis → Bool} {before after items items' : List (Option Item)}
    (hl : before.length = items.length)
    (hmoves : ∀ i, (items.getD i none).any (fun it => concerns it.basis) = true →
      before.getD i none = items.getD i none ∧ after.getD i none = items'.getD i none)
    (hstays : ∀ i, (items.getD i none).any (fun it => concerns it.basis) = false → before.getD i none = after.getD i none) :
    tableReports before after = itemsConditions concerns items items' := by
  unfold tableReports itemsConditions
  rw [hl]
  refine List.flatMap_congr fun i _ => ?_
  rw [itemReports_eq]
  split
  · next h =>
    obtain ⟨hbefore, hafter⟩ := hmoves i h
    rw [hbefore, hafter]
    rfl
  · next h => rw [hstays i (by simpa using h), itemConditions_same]

section
variable {b b' : ServiceBasis} (due due' : Bool) (items : List (Option Item))

/-- What one basis counts leaves the items on every other basis alone. -/
theorem cycledOn_other {i : Nat} (h : (items.getD i none).any (fun it => it.basis == b) = false) :
    (cycledOn b due items).getD i none = items.getD i none := by
  rw [cycledOn_getD]
  cases hit : items.getD i none with
  | none => rfl
  | some it =>
    rw [hit] at h
    have hbasis : it.basis ≠ b := by simpa using h
    simp [hbasis]

/-- Counting leaves each item on its basis. -/
theorem cycledOn_any (i : Nat) (p : ServiceBasis → Bool) :
    ((cycledOn b due items).getD i none).any (fun it => p it.basis) = (items.getD i none).any (fun it => p it.basis) := by
  rw [cycledOn_getD]
  cases items.getD i none with
  | none => rfl
  | some it =>
    simp only [Option.map_some, Option.any_some]
    split <;> rfl

theorem any_basis_exclusive (hne : b ≠ b') {i : Nat} (h : (items.getD i none).any (fun it => it.basis == b) = true) :
    (items.getD i none).any (fun it => it.basis == b') = false := by
  cases hit : items.getD i none with
  | none => rfl
  | some it =>
    rw [hit] at h
    have hbasis : it.basis = b := by simpa using h
    simp [hbasis, hne]

/-- The first of two counts on different bases reports the moves of the items on its basis. -/
theorem tableReports_first (hne : b ≠ b') :
    tableReports items (cycledOn b due items) =
      itemsConditions (· == b) items (cycledOn b' due' (cycledOn b due items)) := by
  refine tableReports_eq rfl (fun i h => ⟨rfl, (cycledOn_other due' _ ?_).symm⟩) fun i h => (cycledOn_other due items h).symm
  rw [cycledOn_any due items i (· == b')]
  exact any_basis_exclusive items hne h

/-- So does the second. -/
theorem tableReports_second (hne : b ≠ b') :
    tableReports (cycledOn b due items) (cycledOn b' due' (cycledOn b due items)) =
      itemsConditions (· == b') items (cycledOn b' due' (cycledOn b due items)) := by
  refine tableReports_eq (cycledOn_length _ _ _) (fun i h => ⟨cycledOn_other due items ?_, rfl⟩) fun i h =>
    (cycledOn_other due' _ ?_).symm
  · exact any_basis_exclusive items hne.symm h
  · rw [cycledOn_any due items i (· == b')]
    exact h

end

/-! ### The speed at the Economy Controller (07 R111, R113) -/

/-- The economy state moves to one without a shutdown, with its auto-idle timer as given. -/
def Ec.movedTo (e : Ec) (st : EconomyState) (auto : Timer) : Ec :=
  { e with state := st, autoIdle := auto, shutdown := none, wait := none }

/-- The reports of a move of the economy state to WORKING or SETTLING (R115). -/
def moveReports (moved : Bool) : List Report := if moved then [.condition 85 false, .condition 55 false] else []

theorem State.ecoMove_withTorque (s : State) {st : EconomyState} (hst : st = .working ∨ st = .settling) (auto : Timer) :
    ∃ torque target, s.ecoMove st auto none none =
      ({ s with ec := s.ec.movedTo st auto, vd := s.vd.endTest, inbox := s.inbox ++ moveReports true } : State).withTorque
        torque target := by
  rcases hst with rfl | rfl
  · exact State.workOutTorque_withTorque _
  · exact State.workOutTorque_withTorque _

/-- The activity condition with a slew speed (R111): the lever is not known to be at rest, or the machine slews. -/
def State.ActiveAt (s : State) (omega : Int) : Prop :=
  (¬∃ v, s.ec.copies.getD 4 ⟨.disabled, none⟩ = ⟨.fresh, some v⟩ ∧ v ≤ s.ret.settings.pilotThreshold) ∨
    s.ret.settings.still < omega.natAbs

/-- Activity begins and moves the economy state (R113). -/
def State.BeginsAt (s : State) (omega : Int) : Prop :=
  s.ActiveAt omega ∧ s.ec.active = false ∧ (s.ec.state = .settling ∨ s.ec.state = .idling)

/-- Activity ends and moves the economy state (R113). -/
def State.EndsAt (s : State) (omega : Int) : Prop :=
  ¬s.ActiveAt omega ∧ s.ec.active = true ∧ s.ec.state = .working ∧ s.ret.settings.autoIdleDelay ≠ 0

/-- The Economy Controller `e` once it has judged a slew speed, and whether its state has moved. -/
structure State.SpeedJudged (s : State) (omega : Int) (e : Ec) (moved : Bool) : Prop where
  frame : e = { s.ec with
    omega := omega, gateStill := s.ret.settings.still, active := e.active, state := e.state, autoIdle := e.autoIdle
    shutdown := e.shutdown, wait := e.wait }
  active : e.active = true ↔ s.ActiveAt omega
  begins : s.BeginsAt omega → moved = true ∧ e.state = .working ∧ e.autoIdle = none ∧ e.shutdown = none ∧ e.wait = none
  ends : s.EndsAt omega → moved = true ∧ e.state = .settling ∧
    e.autoIdle = some (s.ret.settings.autoIdleDelay * 1000) ∧ e.shutdown = none ∧ e.wait = none
  stays : ¬s.BeginsAt omega → ¬s.EndsAt omega → moved = false ∧ e.state = s.ec.state ∧ e.autoIdle = s.ec.autoIdle ∧
    e.shutdown = s.ec.shutdown ∧ e.wait = s.ec.wait

/-- A slew speed has arrived with the still threshold of its gate, and activity is as given. -/
def State.heard (s : State) (omega : Int) (active : Bool) : State :=
  { s with ec := { s.ec with omega := omega, gateStill := s.ret.settings.still, active := active } }

section
variable (s : State) (omega : Int)

theorem State.activeAt_iff :
    activityNow s.ret.settings { s.ec with omega := omega, gateStill := s.ret.settings.still } = true ↔ s.ActiveAt omega :=
  activityNow_iff

variable {s omega}

theorem State.ecGate_begins (h : s.BeginsAt omega) :
    s.ecGate omega = (s.heard omega true).ecoMove .working none none none :=
  (State.judgeActivity_present ((s.activeAt_iff omega).mpr h.1)).trans (if_pos h.2)

theorem State.judgeActivity_leaves (hnow : activityNow s.ret.settings s.ec = false) (hbefore : s.ec.active = true)
    (hst : s.ec.state = .working) (hd : s.ret.settings.autoIdleDelay ≠ 0) :
    s.judgeActivity = (s.judged false).ecoMove .settling s.ret.settings.autoIdleStart none none := by
  simp [State.judgeActivity, State.activityEnds, hbefore, hnow, hst, State.judged, hd]

theorem State.ecGate_ends (h : s.EndsAt omega) :
    s.ecGate omega = (s.heard omega false).ecoMove .settling s.ret.settings.autoIdleStart none none := by
  obtain ⟨hactive, hbefore, hst, hd⟩ := h
  exact State.judgeActivity_leaves ((Bool.not_eq_true _).mp (mt (s.activeAt_iff omega).mp hactive)) hbefore hst hd

theorem State.ecGate_stays (hbegins : ¬s.BeginsAt omega) (hends : ¬s.EndsAt omega) :
    ∃ active, (active = true ↔ s.ActiveAt omega) ∧ s.ecGate omega = s.heard omega active := by
  refine ⟨_, s.activeAt_iff omega, State.judgeActivity_stays ?_ ?_⟩
  · exact fun h => hbegins ⟨(s.activeAt_iff omega).mp h.1, h.2⟩
  · exact fun h => hends ⟨mt (s.activeAt_iff omega).mpr ((Bool.not_eq_true _).mpr h.1), h.2⟩

end

theorem State.ecGate_judged (s : State) (omega : Int) : ∃ e moved torque target, s.SpeedJudged omega e moved ∧
    s.ecGate omega =
      ({ s with
        ec := e, vd := if moved then s.vd.endTest else s.vd, inbox := s.inbox ++ moveReports moved } : State).withTorque
        torque target := by
  by_cases hb : s.BeginsAt omega
  · obtain ⟨torque, target, hmove⟩ := (s.heard omega true).ecoMove_withTorque (.inl rfl) none
    refine ⟨_, true, torque, target, ?_, (State.ecGate_begins hb).trans hmove⟩
    exact ⟨rfl, iff_of_true rfl hb.1, fun _ => ⟨rfl, rfl, rfl, rfl, rfl⟩, fun he => absurd hb.1 he.1, fun h => absurd hb h⟩
  by_cases he : s.EndsAt omega
  · obtain ⟨torque, target, hmove⟩ := (s.heard omega false).ecoMove_withTorque (.inr rfl) s.ret.settings.autoIdleStart
    refine ⟨_, true, torque, target, ?_, (State.ecGate_ends he).trans hmove⟩
    exact ⟨rfl, iff_of_false Bool.false_ne_true he.1, fun h => absurd h hb, fun _ => ⟨rfl, rfl, rfl, rfl, rfl⟩,
      fun _ h => absurd he h⟩
  · obtain ⟨active, hactive, hstays⟩ := State.ecGate_stays hb he
    refine ⟨(s.heard omega active).ec, false, s.ec.torque, (s.vd.chan 3).owner, ?_, hstays.trans ?_⟩
    · exact ⟨rfl, hactive, fun h => absurd h hb, fun h => absurd h he, fun _ _ => ⟨rfl, rfl, rfl, rfl, rfl⟩⟩
    · refine (s.heard omega active).withTorque_self.symm.trans ?_
      simp only [moveReports, List.append_nil, Bool.false_eq_true, if_false]
      rfl

end Sys2Proof.Machine
end

-- ==== Proofs of sitting 2: the write behind the gate ====

section
/-! PROOFS. The write that falls together with the gate's expiry (02 R19; log entry 33). -/

namespace Sys2Proof.Machine

/-! ### Four bytes on the wire -/

theorem beInt_bounds {l : List Byte} (h : l.length = 4) : -2147483648 ≤ beInt l ∧ beInt l ≤ 2147483647 := by
  have hlt := beNat_lt l
  rw [h] at hlt
  unfold beInt
  rw [h]
  dsimp only
  split <;> omega

/-- A payload of four bytes is the one that spells its value. -/
theorem eq_toBeInt_fieldInt {p : List Byte} (h : p.length = 4) :
    p = toBeInt 4 (fieldInt p 0 4) ∧ -2147483648 ≤ fieldInt p 0 4 ∧ fieldInt p 0 4 ≤ 2147483647 := by
  have hfield : field p 0 4 = p := by rw [field, List.drop_zero, List.take_of_length_le h.le]
  refine ⟨?_, ?_⟩
  · rw [toBeInt_fieldInt (by omega), hfield]
  · rw [fieldInt, hfield]
    exact beInt_bounds h

/-! ### Which writes change CPR or the index position -/

section
variable {x : Settings} {v : Int}

/-- A write of a CPR changes the settings exactly where it changes CPR, since the index position lies within it. -/
theorem Settings.written_cpr_ne (h : x.indexPos < x.cpr) :
    x.written v 3 ≠ x ↔ max 1000 (min 1000000 v) ≠ (x.cpr : Int) := by
  have hcast : (clampNat 1000 1000000 v : Int) = max 1000 (min 1000000 v) := clampNat_cast (by decide) v
  rw [← hcast]
  refine not_congr ⟨fun hx => ?_, fun hx => ?_⟩
  · exact_mod_cast congrArg Settings.cpr hx
  · have hcpr : clampNat 1000 1000000 v = x.cpr := by exact_mod_cast hx
    rw [Settings.written, hcpr, min_eq_left (by omega)]

theorem Settings.written_indexPos_ne (h : 1000 ≤ x.cpr) :
    x.written v 4 ≠ x ↔ max 0 (min ((x.cpr : Int) - 1) v) ≠ (x.indexPos : Int) := by
  rw [Settings.written_indexPos h]
  refine not_congr ⟨fun hx => ?_, fun hx => ?_⟩
  · have hindex : (max 0 (min ((x.cpr : Int) - 1) v)).toNat = x.indexPos := congrArg Settings.indexPos hx
    omega
  · rw [hx, Int.toNat_natCast]

theorem Settings.unreferencedBy_iff (h : x.CountBounds) {n : Nat} :
    x.unreferencedBy n v = true ↔
      (n = 3 ∧ max 1000 (min 1000000 v) ≠ (x.cpr : Int)) ∨ (n = 4 ∧ max 0 (min ((x.cpr : Int) - 1) v) ≠ (x.indexPos : Int)) := by
  simp only [Settings.unreferencedBy, Bool.and_eq_true, Bool.or_eq_true, beq_iff_eq, decide_eq_true_iff]
  constructor
  · rintro ⟨rfl | rfl, hx⟩
    · exact .inl ⟨rfl, (Settings.written_cpr_ne h.2).mp hx⟩
    · exact .inr ⟨rfl, (Settings.written_indexPos_ne h.1).mp hx⟩
  · rintro (⟨rfl, hx⟩ | ⟨rfl, hx⟩)
    · exact ⟨.inl rfl, (Settings.written_cpr_ne h.2).mpr hx⟩
    · exact ⟨.inr rfl, (Settings.written_indexPos_ne h.1).mpr hx⟩

end

/-- A command is a write that changes CPR or the index position (R19). -/
def State.Unreferences (s : State) (c : Instr) : Prop :=
  let x := s.ret.settings
  (∃ v : Int, -2147483648 ≤ v ∧ v ≤ 2147483647 ∧
      ((c = .putEntry 9 3 (toBeInt 4 v) ∧ max 1000 (min 1000000 v) ≠ x.cpr) ∨
        (c = .putEntry 9 4 (toBeInt 4 v) ∧ max 0 (min ((x.cpr : Int) - 1) v) ≠ x.indexPos))) ∨
    (c = .retireEntry 9 3 ∧ x.cpr ≠ 36000) ∨ (c = .retireEntry 9 4 ∧ x.indexPos ≠ 0) ∨
    (c = .clearRetained ∧ s.pins.keyAsserted = true ∧ s.ec.state = .stopped ∧ (x.cpr ≠ 36000 ∨ x.indexPos ≠ 0))

section
variable {s : State}

theorem State.unreferencedBy_putEntry_eq (table index : Byte) (p : List Byte) :
    s.unreferencedBy (.putEntry table index p) =
      (table.toNat == 9 && p.length == 4 && s.ret.settings.unreferencedBy index.toNat (fieldInt p 0 4)) := rfl

theorem State.unreferencedBy_retireEntry_eq (table index : Byte) :
    s.unreferencedBy (.retireEntry table index) =
      (table.toNat == 9 &&
        s.ret.settings.unreferencedBy index.toNat ((defaultSettings.get index.toNat).getD 0)) := rfl

theorem State.unreferencedBy_clearRetained_eq :
    s.unreferencedBy .clearRetained =
      (s.pins.keyAsserted && s.ec.state == .stopped &&
        (s.ret.settings.cpr != defaultSettings.cpr || s.ret.settings.indexPos != defaultSettings.indexPos)) := rfl

theorem State.unreferencedBy_putEntry (h : s.ret.settings.CountBounds) (table index : Byte) (p : List Byte) :
    s.unreferencedBy (.putEntry table index p) = true ↔ s.Unreferences (.putEntry table index p) := by
  rw [State.unreferencedBy_putEntry_eq]
  simp only [Bool.and_eq_true, beq_iff_eq, Settings.unreferencedBy_iff h]
  constructor
  · rintro ⟨⟨htable, hp⟩, hx⟩
    obtain ⟨hpayload, hlo, hhi⟩ := eq_toBeInt_fieldInt hp
    obtain rfl : table = 9 := BitVec.eq_of_toNat_eq htable
    refine .inl ⟨_, hlo, hhi, hx.imp ?_ ?_⟩
    · rintro ⟨hindex, hv⟩
      obtain rfl : index = 3 := BitVec.eq_of_toNat_eq hindex
      exact ⟨congrArg _ hpayload, hv⟩
    · rintro ⟨hindex, hv⟩
      obtain rfl : index = 4 := BitVec.eq_of_toNat_eq hindex
      exact ⟨congrArg _ hpayload, hv⟩
  · rintro (⟨v, hlo, hhi, hput⟩ | hother)
    · rcases hput with ⟨hc, hv⟩ | ⟨hc, hv⟩ <;> obtain ⟨rfl, rfl, rfl⟩ := Instr.putEntry.inj hc
      · exact ⟨⟨rfl, toBeInt_length 4 v⟩, .inl ⟨rfl, by rwa [fieldInt_setting hlo hhi]⟩⟩
      · exact ⟨⟨rfl, toBeInt_length 4 v⟩, .inr ⟨rfl, by rwa [fieldInt_setting hlo hhi]⟩⟩
    · simp at hother

theorem State.unreferencedBy_retireEntry (h : s.ret.settings.CountBounds) (table index : Byte) :
    s.unreferencedBy (.retireEntry table index) = true ↔ s.Unreferences (.retireEntry table index) := by
  obtain ⟨hcpr, hindexPos⟩ := h
  rw [State.unreferencedBy_retireEntry_eq]
  simp only [Bool.and_eq_true, beq_iff_eq, Settings.unreferencedBy_iff ⟨hcpr, hindexPos⟩]
  constructor
  · rintro ⟨htable, ⟨hindex, hv⟩ | ⟨hindex, hv⟩⟩
    · obtain rfl : table = 9 := BitVec.eq_of_toNat_eq htable
      obtain rfl : index = 3 := BitVec.eq_of_toNat_eq hindex
      refine .inr (.inl ⟨rfl, fun hx => hv ?_⟩)
      rw [hx]
      rfl
    · obtain rfl : table = 9 := BitVec.eq_of_toNat_eq htable
      obtain rfl : index = 4 := BitVec.eq_of_toNat_eq hindex
      refine .inr (.inr (.inl ⟨rfl, fun hx => hv ?_⟩))
      have hdefault : (defaultSettings.get (4 : Byte).toNat).getD 0 = 0 := rfl
      omega
  · rintro (⟨v, -, -, hput⟩ | ⟨hc, hx⟩ | ⟨hc, hx⟩ | ⟨hc, -⟩)
    · rcases hput with ⟨hc, -⟩ | ⟨hc, -⟩ <;> exact Instr.noConfusion hc
    · obtain ⟨rfl, rfl⟩ := Instr.retireEntry.inj hc
      have hdefault : (defaultSettings.get (3 : Byte).toNat).getD 0 = 36000 := rfl
      exact ⟨rfl, .inl ⟨rfl, by omega⟩⟩
    · obtain ⟨rfl, rfl⟩ := Instr.retireEntry.inj hc
      have hdefault : (defaultSettings.get (4 : Byte).toNat).getD 0 = 0 := rfl
      exact ⟨rfl, .inr ⟨rfl, by omega⟩⟩
    · exact Instr.noConfusion hc

theorem State.unreferencedBy_iff (h : s.ret.settings.CountBounds) (c : Instr) :
    s.unreferencedBy c = true ↔ s.Unreferences c := by
  cases c
  case putEntry table index p => exact State.unreferencedBy_putEntry h table index p
  case retireEntry table index => exact State.unreferencedBy_retireEntry h table index
  case clearRetained =>
    rw [State.unreferencedBy_clearRetained_eq]
    simp [State.Unreferences, defaultSettings, and_assoc]
  all_goals exact iff_of_false Bool.false_ne_true (by simp [State.Unreferences])

theorem State.writeBehind_iff (h : s.ret.settings.CountBounds) :
    s.writeBehind = true ↔ ∃ c rest, s.pending = c :: rest ∧ s.Unreferences c := by
  unfold State.writeBehind
  cases hp : s.pending with
  | nil => simp
  | cons c rest => simp [State.unreferencedBy_iff h]

end

end Sys2Proof.Machine
end

-- ==== Proofs of sitting 2: the gate ====

section
/-! PROOFS. The gate closes and is published (02 R28 to R31). -/

namespace Sys2Proof.Machine

/-! ### What the gate gives -/

theorem slewSpeed_eq (cpr : Nat) (dc : Int) : slewSpeed cpr dc = max (-32767) (min 32767 (rndDiv (dc * 1638400) cpr)) := by
  unfold slewSpeed clampInt
  split
  · omega
  · split <;> omega

/-- The run goes on, begins anew or stands (R30). -/
theorem Sc.closed_eq (x : Settings) (sc : Sc) {omega : Int} (h : slewSpeed x.cpr sc.gateAcc = omega) :
    sc.closed x =
      { sc with
        gateAcc := 0, gate := some 10, omega := omega
        runDir := if gateDir x.still omega = .none then sc.runDir else gateDir x.still omega
        runCount :=
          if gateDir x.still omega = .none then sc.runCount
          else if gateDir x.still omega = sc.runDir then min x.cpr (sc.runCount + sc.gateAcc.natAbs)
          else min x.cpr sc.gateAcc.natAbs } := by
  subst h
  simp only [Sc.closed]
  generalize gateDir x.still (slewSpeed x.cpr sc.gateAcc) = dir
  unfold runNext
  split
  · rfl
  · next hdir =>
    rw [if_neg hdir, if_neg hdir]
    split
    · next hrun => rw [hrun]; rfl
    · rfl

theorem sendsReversal_eq (x : Settings) (dir runDir : RunDir) (runCount : Nat) :
    sendsReversal x dir runDir runCount =
      decide (dir ≠ .none ∧ runDir ≠ .none ∧ dir ≠ runDir ∧ (x.minSwing : Int) ≤ rndDiv ((runCount : Int) * 16384) x.cpr) := by
  rw [Bool.eq_iff_iff, sendsReversal]
  simp only [Bool.and_eq_true, bne_iff_ne, decide_eq_true_iff, and_assoc]
  rfl

/-! ### The detector (03 R48) -/

theorem digCycle_eq (g : Geometry) (d : Detector) (z : Option Int) :
    digCycle g d z = (d == .waitDump && z.any (fun z => decide (g.dump < z))) := by
  cases d <;> cases z <;> rfl

theorem detectorNext_eq (g : Geometry) (d : Detector) (z : Option Int) :
    detectorNext g d z =
      if digCycle g d z then .waitDig
      else if d = .waitDig ∧ z.any (fun z => decide (z < g.dig)) then .waitDump else d := by
  cases d <;> cases z <;> simp [detectorNext, digCycle]

/-! ### The stages of the publication (R29) -/

/-- The gate has closed and its content stands at the Pose Unit (03 R44). -/
def State.gated (s : State) (count : Nat) (referenced : Bool) (omega : Int) : State :=
  { s with
    sc := s.sc.closed s.ret.settings
    pu := { s.pu with
      gatePhi := slewAngle s.ret.settings.cpr count, gateRef := referenced, gateOmega := omega } }

/-- A pose is published, and both its receivers evaluate it (03 R47). -/
def State.posed (s : State) (p : Pose) : State := ((s.publish p).evaluateLimits).evaluateGrade

/-- The Economy Controller is as given, with the drive test ended and the reports made where its state has moved. -/
def State.economyIs (s : State) (e : Ec) (moved : Bool) : State :=
  { s with ec := e, vd := if moved then s.vd.endTest else s.vd, inbox := s.inbox ++ moveReports moved }

theorem State.closeGate_stages (s : State) (count : Nat) (referenced : Bool) {omega : Int} {pose : Pose} {dig reversal : Bool}
    (homega : slewSpeed s.ret.settings.cpr s.sc.gateAcc = omega)
    (hpose : (s.gated count referenced omega).nextPose = pose)
    (hdig : digCycle s.ret.geometry s.pu.detector pose.z = dig)
    (hreversal : sendsReversal s.ret.settings (gateDir s.ret.settings.still omega) s.sc.runDir s.sc.runCount = reversal) :
    s.closeGate count referenced =
      let p := (s.gated count referenced omega).posed pose
      let q := (if dig then p.serviceEvent (· == .digCycles) Item.addCycle else p).ecGate omega
      if reversal then q.serviceEvent (· == .slewReversals) Item.addCycle else q := by
  subst homega hpose hdig hreversal
  rfl

/-- The state once the gate is published: every stage with its reports, T as the two counts and the judgement left it. -/
theorem State.closeGate_published (s : State) (count : Nat) (referenced : Bool) {omega : Int} {pose : Pose}
    {dig reversal : Bool}
    (homega : slewSpeed s.ret.settings.cpr s.sc.gateAcc = omega)
    (hpose : (s.gated count referenced omega).nextPose = pose)
    (hdig : digCycle s.ret.geometry s.pu.detector pose.z = dig)
    (hreversal : sendsReversal s.ret.settings (gateDir s.ret.settings.still omega) s.sc.runDir s.sc.runCount = reversal) :
    ∃ torque target e moved torque' target' torque'' target'',
      let p := (((s.gated count referenced omega).posed pose).cycled .digCycles dig).withTorque torque target
      p.SpeedJudged omega e moved ∧
      s.closeGate count referenced =
        (((p.economyIs e moved).withTorque torque' target').cycled .slewReversals reversal).withTorque torque'' target'' := by
  obtain ⟨torque, target, hdigs⟩ :=
    ((s.gated count referenced omega).posed pose).serviceEvent_cycled (b := .digCycles) rfl dig
  obtain ⟨e, moved, torque', target', hjudged, hgate⟩ :=
    ((((s.gated count referenced omega).posed pose).cycled .digCycles dig).withTorque torque target).ecGate_judged omega
  obtain ⟨torque'', target'', hreverses⟩ :=
    (((((((s.gated count referenced omega).posed pose).cycled .digCycles dig).withTorque torque target).economyIs e
      moved).withTorque torque' target').serviceEvent_cycled (b := .slewReversals) rfl reversal)
  refine ⟨torque, target, e, moved, torque', target', torque'', target'', hjudged, ?_⟩
  rw [State.closeGate_stages s count referenced homega hpose hdig hreversal]
  dsimp only
  rw [hdigs, hgate]
  exact hreverses

/-! ### The parts of the published state -/

theorem cycledTwice_none (dig reversal : Bool) (items : List (Option Item)) (i : Nat) (h : items.getD i none = none) :
    (cycledOn .slewReversals reversal (cycledOn .digCycles dig items)).getD i none = none := by
  rw [cycledOn_getD, cycledOn_getD, h]
  rfl

/-- What two counts on different bases leave of an item: at most one cycle more (R31, 03 R48). -/
theorem cycledTwice_some (dig reversal : Bool) (items : List (Option Item)) (i : Nat) {it : Item}
    (h : items.getD i none = some it) :
    let more := (it.basis = .slewReversals ∧ reversal = true) ∨ (it.basis = .digCycles ∧ dig = true)
    (more → (cycledOn .slewReversals reversal (cycledOn .digCycles dig items)).getD i none = some it.cycled) ∧
    (¬more → (cycledOn .slewReversals reversal (cycledOn .digCycles dig items)).getD i none = some it) := by
  rw [cycledOn_getD, cycledOn_getD, h]
  refine ⟨?_, fun hmore => ?_⟩
  · rintro (⟨hbasis, hdue⟩ | ⟨hbasis, hdue⟩)
    · simp [hbasis, hdue]
    · have hcycled : it.cycled.basis = .digCycles := hbasis
      simp [hbasis, hdue, hcycled]
  · obtain ⟨hreversal, hdig⟩ := not_or.mp hmore
    rw [Option.map_some, if_neg (fun hd => hdig hd.symm), Option.map_some, if_neg (fun hr => hreversal hr.symm)]

theorem State.linkWord_elapse (s : State) (dt i : Nat) : (s.elapse dt).linkWord i = s.linkWord i := by
  simp only [State.linkWord, State.slot, State.elapse_mbp, Mbp.elapse, List.getD_eq_getElem?_getD, List.getElem?_map]
  cases s.mbp.slots[i]? <;> rfl

/-- The channels once the Slew Limiter, the Grade Guide and the Economy Controller have handed their targets on. -/
def Vd.published (v : Vd) (left right floor torque : Nat) (moved : Bool) (torque' torque'' : Nat) : Vd :=
  let w := (((v.hand 0 left).hand 1 right).hand 2 floor).hand 3 torque
  ((if moved then w.endTest else w).hand 3 torque').hand 3 torque''

section
variable (v : Vd) (left right floor torque : Nat) (moved : Bool) (torque' torque'' : Nat)

theorem Vd.OwnersOnly.endTest {v' v : Vd} (h : v'.OwnersOnly v) : v'.endTest.OwnersOnly v := h

theorem Vd.published_ownersOnly : (v.published left right floor torque moved torque' torque'').OwnersOnly v := by
  have hhanded := ((((Vd.OwnersOnly.refl v).hand 0 left).hand 1 right).hand 2 floor).hand 3 torque
  cases moved
  · exact (hhanded.hand 3 torque').hand 3 torque''
  · exact (hhanded.endTest.hand 3 torque').hand 3 torque''

/-- The owners' targets of the first three channels. -/
theorem Vd.published_owners (h : v.chans.length = 4) :
    let w := v.published left right floor torque moved torque' torque''
    (w.chan 0).owner = left ∧ (w.chan 1).owner = right ∧ (w.chan 2).owner = floor := by
  have hchan (ch : Nat) (hch : 3 ≠ ch) : (v.published left right floor torque moved torque' torque'').chan ch =
      (((v.hand 0 left).hand 1 right).hand 2 floor).chan ch := by
    rw [Vd.published, Vd.hand_chan_other _ hch, Vd.hand_chan_other _ hch]
    cases moved
    · exact Vd.hand_chan_other _ hch
    · exact Vd.hand_chan_other _ hch
  refine ⟨?_, ?_, ?_⟩
  · rw [hchan 0 (by decide), Vd.hand_chan_other _ (by decide), Vd.hand_chan_other _ (by decide),
      Vd.hand_chan_same _ (by omega)]
  · rw [hchan 1 (by decide), Vd.hand_chan_other _ (by decide), Vd.hand_chan_same _ (by rw [Vd.hand_length]; omega)]
  · rw [hchan 2 (by decide), Vd.hand_chan_same _ (by rw [Vd.hand_length, Vd.hand_length]; omega)]

theorem Vd.published_frame :
    let w := v.published left right floor torque moved torque' torque''
    w = { v with chans := w.chans, test := w.test, duration := w.duration } := by
  cases moved <;> rfl

theorem Vd.published_test :
    let w := v.published left right floor torque moved torque' torque''
    w.test = (if moved then none else v.test) ∧ w.duration = if moved then none else v.duration := by
  cases moved <;> exact ⟨rfl, rfl⟩

end

theorem State.posed_inbox (s : State) (p : Pose) :
    (s.posed p).inbox =
      s.inbox ++ limitConditions (s.posed p).slm.record ++ floorConditions (s.posed p).gg.floor := by
  rw [← limitReports_eq, ← floorReports_eq]
  rfl

/-- The reports of two counts and of a move of the economy state between them. -/
theorem State.economyIs_inbox (w : State) (dig reversal moved : Bool) (e : Ec) (torque target torque' target' : Nat) :
    let items := cycledOn .slewReversals reversal (cycledOn .digCycles dig w.ret.items)
    (((((w.cycled .digCycles dig).withTorque torque target).economyIs e moved).withTorque torque' target').cycled
        .slewReversals reversal).inbox =
      w.inbox ++ itemsConditions (· == .digCycles) w.ret.items items ++ moveReports moved ++
        itemsConditions (· == .slewReversals) w.ret.items items := by
  dsimp only
  rw [← tableReports_first dig reversal w.ret.items (by decide), ← tableReports_second dig reversal w.ret.items (by decide)]
  rfl

/-! ### The gate's expiry -/

/-- What goes out with the gate (R19): count and reference state as they stand, or as a write directly behind leaves them. -/
theorem State.gateExpires_eq {s : State} (h : s.ret.settings.CountBounds) {count : Nat} {referenced : Bool}
    (hbehind : (∃ c rest, s.pending = c :: rest ∧ s.Unreferences c) → count = 0 ∧ referenced = false)
    (hnot : ¬(∃ c rest, s.pending = c :: rest ∧ s.Unreferences c) → count = s.sc.count ∧ referenced = s.sc.referenced) :
    s.gateExpires = s.closeGate count referenced := by
  unfold State.gateExpires
  split
  · next hb =>
    obtain ⟨rfl, rfl⟩ := hbehind ((State.writeBehind_iff h).mp hb)
    rfl
  · next hb =>
    obtain ⟨rfl, rfl⟩ := hnot (mt (State.writeBehind_iff h).mpr hb)
    rfl

end Sys2Proof.Machine

open Sys2Proof Sys2Proof.Machine

/-- Settles O36: the write behind decides what goes out (`State.gateExpires_eq`), and the gate reaches its receivers in the stages
of `State.closeGate_published`, each of which touches its own part of the state. -/
theorem gateClosesAndPublishes : Obligations.GateClosesAndPublishes := by
  rintro s left count referenced ⟨hrun, hin⟩ hcount hchans hgate x u behind omega dir reversal pose dig lever active begins ends
    hbehind hnot
  have hexpires : u.gateExpires = u.closeGate count referenced :=
    State.gateExpires_eq (s := u) ⟨hcount.1, hcount.2.1⟩ hbehind hnot
  have homega : slewSpeed u.ret.settings.cpr u.sc.gateAcc = omega := slewSpeed_eq _ _
  have hpose : (u.gated count referenced omega).nextPose = pose := by
    have hword (i : Nat) : (u.gated count referenced omega).linkWord i = s.linkWord i := s.linkWord_elapse left i
    rw [State.nextPose, hword, hword, hword]
    rfl
  have hdig : digCycle s.ret.geometry s.pu.detector pose.z = dig := digCycle_eq _ _ _
  have hreversal : sendsReversal u.ret.settings (gateDir u.ret.settings.still omega) u.sc.runDir u.sc.runCount = reversal :=
    sendsReversal_eq _ _ _ _
  obtain ⟨torque, target, e, moved, torque', target', torque'', target'', hjudged, hclose⟩ :=
    u.closeGate_published count referenced homega hpose hdig hreversal
  let w := (u.gated count referenced omega).posed pose
  let p := (w.cycled .digCycles dig).withTorque torque target
  let q := (((p.economyIs e moved).withTorque torque' target').cycled .slewReversals reversal).withTorque torque'' target''
  have hexec : exec .gateTimerExpiry s = .next q.deliver := by
    refine (State.commit_expire (pick := fun s => s.sc.gate) hrun hgate _).trans ?_
    rw [hexpires, hclose]
  have hnotices : q.deliver.nu.notices = noticesAfter (limitConditions q.slm.record ++ floorConditions q.gg.floor ++
      itemsConditions (· == .digCycles) s.ret.items q.ret.items ++ moveReports moved ++
      itemsConditions (· == .slewReversals) s.ret.items q.ret.items) s.nu.notices := by
    have hreports : q.inbox = _ := w.economyIs_inbox dig reversal moved e torque target torque' target'
    rw [State.posed_inbox, show (u.gated count referenced omega).inbox = [] from hin, List.nil_append] at hreports
    exact (State.deliver_notices q).trans (congrArg (noticesAfter · s.nu.notices) hreports)
  obtain ⟨hleft, hright, hfloor⟩ := u.vd.published_owners (slewTarget (s.ret.config 0) q.slm.record.left)
    (slewTarget (s.ret.config 1) q.slm.record.right) q.gg.floor.target target moved target' target''
    ((List.length_map _).trans hchans)
  have hvd : q.vd = { u.vd with chans := q.vd.chans, test := q.vd.test, duration := q.vd.duration } :=
    Vd.published_frame _ _ _ _ _ _ _ _
  have htest : q.vd.test = (if moved then none else s.vd.test) ∧ q.vd.duration = if moved then none else u.vd.duration :=
    Vd.published_test _ _ _ _ _ _ _ _
  have hdetector : detectorNext s.ret.geometry s.pu.detector pose.z = _ := detectorNext_eq _ _ _
  rw [hdig] at hdetector
  refine ⟨q.deliver, hexec, ⟨fun hmoves => ?_, fun hb he => ?_⟩, Sc.closed_eq x u.sc homega,
    congrArg (fun d => { (u.gated count referenced omega).pu with pose := pose, detector := d }) hdetector, rfl, rfl, rfl,
    fun hb => ?_, fun he => ?_, fun hb he => ?_, hjudged.active,
    congrArg (fun e => { e with torque := torque'' }) hjudged.frame,
    fun i => ⟨cycledTwice_none dig reversal s.ret.items i, fun _ => cycledTwice_some dig reversal s.ret.items i⟩,
    fun ch _ => u.vd.published_ownersOnly _ _ _ _ _ _ _ ch, hleft, hright, hfloor,
    State.eq_of_inbox (congrArg (fun v => { q.deliver with vd := v }) hvd) hin.symm⟩
  · have hmoved : moved = true := hmoves.elim (fun hb => (hjudged.begins hb).1) (fun he => (hjudged.ends he).1)
    rw [hmoved] at hnotices
    exact hnotices
  · rw [(hjudged.stays hb he).1] at hnotices
    exact hnotices
  · obtain ⟨hmoved, hst, hauto, hshut, hwait⟩ := hjudged.begins hb
    rw [hmoved] at htest
    exact ⟨hst, hauto, hshut, hwait, htest⟩
  · obtain ⟨hmoved, hst, hauto, hshut, hwait⟩ := hjudged.ends he
    rw [hmoved] at htest
    exact ⟨hst, hauto, hshut, hwait, htest⟩
  · obtain ⟨hmoved, hst, hauto, hshut, hwait⟩ := hjudged.stays hb he
    rw [hmoved] at htest
    exact ⟨hst, hauto, hshut, hwait, htest⟩
end

-- ==== Proofs of sitting 3: the sine table ====

section
/-! PROOFS. The sine table (03 R38): its four quadrants, each with both of its ends. -/

namespace Sys2Proof.Machine

theorem sineQuarter_zero : sineQuarter 0 = 0 := by decide +kernel

theorem sineTable_first {a : Nat} (h : a ≤ 4096) : sineTable a = sineQuarter a := if_pos h

theorem sineTable_second {a : Nat} (hlo : 4096 ≤ a) (hhi : a ≤ 8192) : sineTable a = sineQuarter (8192 - a) := by
  rcases hlo.eq_or_lt with rfl | hlt
  · exact sineTable_first le_rfl
  · rw [sineTable, if_neg (by omega), if_pos hhi]

theorem sineTable_third {a : Nat} (hlo : 8192 ≤ a) (hhi : a ≤ 12288) : sineTable a = -sineQuarter (a - 8192) := by
  rcases hlo.eq_or_lt with rfl | hlt
  · rw [sineTable_second (by omega) le_rfl, Nat.sub_self, sineQuarter_zero, neg_zero]
  · rw [sineTable, if_neg (by omega), if_neg (by omega), if_pos hhi]

theorem sineTable_fourth {a : Nat} (hlo : 12288 ≤ a) : sineTable a = -sineQuarter (16384 - a) := by
  rcases hlo.eq_or_lt with rfl | hlt
  · exact sineTable_third (by omega) le_rfl
  · rw [sineTable, if_neg (by omega), if_neg (by omega), if_neg (by omega)]

/-- The sine of the supplement. -/
theorem sineTable_half_sub {a : Nat} (h : a ≤ 8192) : sineTable (8192 - a) = sineTable a := by
  rcases Nat.le_total a 4096 with hq | hq
  · rw [sineTable_first hq, sineTable_second (by omega) (by omega), Nat.sub_sub_self h]
  · rw [sineTable_second hq h, sineTable_first (by omega)]

/-- The sine of the opposite angle, from an angle word of the first half turn. -/
theorem sineTable_turn_sub_of_le {a : Nat} (h : a ≤ 8192) : sineTable (16384 - a) = -sineTable a := by
  rcases Nat.le_total a 4096 with hq | hq
  · rw [sineTable_first hq, sineTable_fourth (by omega), Nat.sub_sub_self (by omega)]
  · rw [sineTable_second hq h, sineTable_third (by omega) (by omega), show 16384 - a - 8192 = 8192 - a by omega]

theorem sineTable_turn_sub {a : Nat} (h : a ≤ 16384) : sineTable (16384 - a) = -sineTable a := by
  rcases Nat.le_total a 8192 with hhalf | hhalf
  · exact sineTable_turn_sub_of_le hhalf
  · have hopposite := sineTable_turn_sub_of_le (a := 16384 - a) (by omega)
    rw [Nat.sub_sub_self h] at hopposite
    rw [hopposite, neg_neg]

end Sys2Proof.Machine

open Sys2Proof.Machine in
/-- Settles O23: the listed entries are computed; the symmetries are those of the four quadrants, which agree where they meet. -/
theorem sineTableSymmetry : Obligations.SineTableSymmetry := by
  refine ⟨by decide +kernel, fun a h => sineTable_half_sub h, fun a _ h => sineTable_turn_sub (by omega), fun a h => ⟨?_, rfl⟩⟩
  exact congrArg sineTable (Nat.mod_eq_of_lt h)
end

-- ==== Proofs of sitting 3: the Pose record ====

section
/-! PROOFS. The Pose record that a recompute gives (03 R39 to R44), by its three qualities. -/

namespace Sys2Proof.Machine

section
variable {g : Geometry} {pu : Pu} {d : Dims}

/-- The number, the slew speed and the slew angle of a pose do not depend on its quality. -/
theorem poseOf_gate (g : Geometry) (pu : Pu) (wb ws wk : Int) :
    (poseOf g pu wb ws wk).seq = (pu.pose.seq + 1) % 65536 ∧ (poseOf g pu wb ws wk).omega = pu.gateOmega ∧
      (poseOf g pu wb ws wk).phi = if pu.gateRef then some pu.gatePhi else none := by
  unfold poseOf
  cases poseQuality g pu <;> cases g.dims <;> exact ⟨rfl, rfl, rfl⟩

theorem poseQuality_invalid (h : g.dims = none ∨ pu.links ≠ [.fresh, .fresh, .fresh]) : poseQuality g pu = .invalid := by
  refine if_pos ?_
  simpa only [Bool.or_eq_true, Option.isNone_iff_eq_none, bne_iff_ne] using h

theorem poseQuality_valid (hd : g.dims = some d) (hl : pu.links = [.fresh, .fresh, .fresh]) :
    poseQuality g pu = if pu.gateRef then .complete else .noSlew := by
  refine if_neg ?_
  simp [hd, hl]

theorem poseOf_invalid (wb ws wk : Int) (h : g.dims = none ∨ pu.links ≠ [.fresh, .fresh, .fresh]) :
    poseOf g pu wb ws wk =
      { seq := (pu.pose.seq + 1) % 65536, quality := .invalid, phi := if pu.gateRef then some pu.gatePhi else none
        omega := pu.gateOmega, r := none, z := none, x := none, y := none } := by
  rw [poseOf, poseQuality_invalid h]

theorem poseOf_noSlew (wb ws wk : Int) (hd : g.dims = some d) (hl : pu.links = [.fresh, .fresh, .fresh])
    (href : pu.gateRef = false) :
    poseOf g pu wb ws wk =
      { seq := (pu.pose.seq + 1) % 65536, quality := .noSlew, phi := none, omega := pu.gateOmega
        r := some (tipRadius d wb ws wk), z := some (tipHeight d wb ws wk), x := none, y := none } := by
  rw [poseOf, poseQuality_valid hd hl, href, hd]
  rfl

theorem poseOf_complete (wb ws wk : Int) (hd : g.dims = some d) (hl : pu.links = [.fresh, .fresh, .fresh])
    (href : pu.gateRef = true) :
    poseOf g pu wb ws wk =
      { seq := (pu.pose.seq + 1) % 65536, quality := .complete, phi := some pu.gatePhi, omega := pu.gateOmega
        r := some (tipRadius d wb ws wk), z := some (tipHeight d wb ws wk)
        x := some (rndDiv (tipRadius d wb ws wk * cosA pu.gatePhi) 32768)
        y := some (rndDiv (tipRadius d wb ws wk * sinA pu.gatePhi) 32768) } := by
  rw [poseOf, poseQuality_valid hd hl, href, hd]
  rfl

end

end Sys2Proof.Machine

open Sys2Proof.Machine in
/-- Settles O33: the gate's content stands in every pose (`poseOf_gate`), and each quality gives its own fields. -/
theorem poseComputed : Obligations.PoseComputed := by
  intro g pu wb ws wk p fresh angle part
  obtain ⟨hseq, homega, hphi⟩ := poseOf_gate g pu wb ws wk
  refine ⟨hseq, homega, hphi, fun hinvalid => ?_, fun d hd hfresh => ?_⟩
  · have hp : p = _ := poseOf_invalid wb ws wk hinvalid
    rw [hp]
    exact ⟨rfl, rfl, rfl, rfl, rfl⟩
  · cases href : pu.gateRef with
    | false =>
      have hp : p = _ := poseOf_noSlew wb ws wk hd hfresh href
      rw [hp]
      exact ⟨rfl, rfl, fun _ => ⟨rfl, rfl, rfl⟩, nofun⟩
    | true =>
      have hp : p = _ := poseOf_complete wb ws wk hd hfresh href
      rw [hp]
      exact ⟨rfl, rfl, nofun, fun _ => ⟨rfl, rfl, rfl⟩⟩
end

-- ==== Proofs of sitting 3: the shape of every pose ====

section
/-! PROOFS. The shape of every pose (03 R43): a recompute forms a sound pose and hands it to its receivers (R47), a start sets the
starting pose (R50), and nothing else writes one. -/

namespace Sys2Proof.Machine

/-! ### Recomputes -/

theorem poseOf_sound (g : Geometry) (pu : Pu) (wb ws wk : Int) : (poseOf g pu wb ws wk).Sound := by
  by_cases hlinks : pu.links = [.fresh, .fresh, .fresh]
  · cases hd : g.dims with
    | none =>
      rw [poseOf_invalid wb ws wk (.inl hd)]
      simp [Pose.Sound]
    | some d =>
      cases href : pu.gateRef with
      | false =>
        rw [poseOf_noSlew wb ws wk hd hlinks href]
        simp [Pose.Sound]
      | true =>
        rw [poseOf_complete wb ws wk hd hlinks href]
        simp [Pose.Sound]
  · rw [poseOf_invalid wb ws wk (.inr hlinks)]
    simp [Pose.Sound]

theorem startPose_sound : startPose.Sound := by decide

/-- A recompute leaves all three poses sound, whatever they were. -/
theorem State.recompute_posesSound (s : State) : s.recompute.PosesSound := by
  have hpose : s.nextPose.Sound := poseOf_sound _ _ _ _ _
  have hgg : s.recompute.gg.held = s.nextPose := by
    unfold State.recompute State.serviceDigCycle
    dsimp only
    split
    · rw [State.serviceEvent_frame]
      rfl
    · rfl
  rw [State.PosesSound, hgg, State.recompute_frame]
  exact ⟨hpose, hpose, hpose⟩

theorem State.start_posesSound (s : State) (extra : List Report) : (s.start extra).PosesSound :=
  ⟨startPose_sound, startPose_sound, startPose_sound⟩

theorem State.writeGeometry_posesSound (s : State) (g : Geometry) : (s.writeGeometry g).PosesSound :=
  State.recompute_posesSound _

namespace State.PosesSound

variable {s : State}

/-! ### Operations that several commands share -/

theorem elapse (h : s.PosesSound) (dt : Nat) : (s.elapse dt).PosesSound := h

theorem report (h : s.PosesSound) (rs : List Report) : (s.report rs).PosesSound := h

theorem answer (h : s.PosesSound) (code : Nat) (r : ResultCode) (p : List Byte) : (s.answer code r p).PosesSound := h

theorem serviceEvent (h : s.PosesSound) (p : ServiceBasis → Bool) (f : Item → Item) : (s.serviceEvent p f).PosesSound := by
  rw [State.serviceEvent_frame]
  exact h

theorem writeItem (h : s.PosesSound) (i : Nat) (it : Item) : (s.writeItem i it).PosesSound := by
  rw [State.writeItem_frame]
  exact h

theorem judgeEngine (h : s.PosesSound) : s.judgeEngine.PosesSound := by
  rw [State.judgeEngine_frame]
  exact h

theorem judgeActivity (h : s.PosesSound) : s.judgeActivity.PosesSound := by
  rw [State.judgeActivity_frame]
  exact h

theorem judgeOil (h : s.PosesSound) : s.judgeOil.PosesSound := by
  rw [State.judgeOil_frame]
  exact h

theorem workOutTorque (h : s.PosesSound) : s.workOutTorque.PosesSound := h

theorem ecGate (h : s.PosesSound) (w : Int) : (s.ecGate w).PosesSound := by
  rw [State.ecGate_frame]
  exact h

theorem busRejoined (h : s.PosesSound) : s.busRejoined.PosesSound := by
  rw [State.busRejoined_frame]
  exact h

theorem demandWritten (h : s.PosesSound) (before : Bool) : (s.demandWritten before).PosesSound := by
  rw [State.demandWritten_frame]
  exact h

theorem writeChannel (h : s.PosesSound) (ch : Nat) (c : ChannelConfig) : (s.writeChannel ch c).PosesSound := by
  unfold State.writeChannel
  rw [State.handBack_frame]
  exact h

/-- A link slot's report has a pose recomputed (R45); one of another slot goes to the Economy Controller. -/
theorem tellConsumer (h : s.PosesSound) (i : Nat) (changed accepted : Bool) :
    (s.tellConsumer i changed accepted).PosesSound := by
  unfold State.tellConsumer
  split
  · split
    · exact State.recompute_posesSound _
    · exact h
  split
  · rw [State.ecSource_frame]
    exact h
  · exact h

/-! ### Samples, slots, gates -/

theorem takeSample (h : s.PosesSound) (f : CanFrame) (i : Nat) : (State.takeSample f s i).PosesSound := by
  unfold State.takeSample
  split
  · exact tellConsumer (s := (s.setSlot i _).report _) h _ _ _
  · exact tellConsumer (s := (s.setSlot i _).report _) h _ _ _

theorem takeSamples (f : CanFrame) (l : List Nat) :
    ∀ s : State, s.PosesSound → (l.foldl (State.takeSample f) s).PosesSound := by
  induction l with
  | nil => exact fun _ h => h
  | cons i l ih => exact fun _ h => ih _ (h.takeSample f i)

theorem frameArrives (h : s.PosesSound) (f : CanFrame) : (s.frameArrives f).PosesSound :=
  takeSamples f _ { s with choice := _ } h

theorem sourceLost (h : s.PosesSound) (i : Nat) : (s.sourceLost i).PosesSound :=
  tellConsumer (s := (s.setSlot i _).report _) h _ _ _

theorem writeSource (h : s.PosesSound) (i : Nat) (x : SourceRecord) : (s.writeSource i x).PosesSound :=
  tellConsumer (s := ((s.setSource i x).setSlot i _).report _) h _ _ _

/-- A gate has a pose recomputed (R45); what the reversal and the speed do to the other blocks leaves it. -/
theorem closeGate (s : State) (count : Nat) (r : Bool) : (s.closeGate count r).PosesSound := by
  unfold State.closeGate
  dsimp only
  split
  · exact ((State.recompute_posesSound _).ecGate _).serviceEvent _ _
  · exact (State.recompute_posesSound _).ecGate _

theorem gateExpires (s : State) : s.gateExpires.PosesSound := by
  unfold State.gateExpires
  split <;> exact closeGate s _ _

theorem periodEnds (h : s.PosesSound) (b : Bool) : (s.periodEnds b).PosesSound := by
  unfold State.periodEnds
  repeat' split
  all_goals exact h

theorem attemptEnds (h : s.PosesSound) (b : Bool) : (s.attemptEnds b).PosesSound := by
  unfold State.attemptEnds
  repeat' split
  all_goals exact h

/-! ### Requests -/

theorem selectTarget (h : s.PosesSound) (i : Nat) : (s.selectTarget i).1.PosesSound := by
  unfold State.selectTarget
  repeat' split
  all_goals exact h

theorem selectMode (h : s.PosesSound) (i : Nat) : (s.selectMode i).PosesSound := by
  unfold State.selectMode
  dsimp only
  repeat' split
  all_goals exact h

theorem serviceDone (h : s.PosesSound) (i : Nat) : (s.serviceDone i).1.PosesSound := by
  unfold State.serviceDone
  repeat' split
  any_goals exact h
  exact h.writeItem _ _

theorem ackHead (h : s.PosesSound) : s.ackHead.1.PosesSound := by
  unfold State.ackHead
  split <;> exact h

theorem ackNotice (h : s.PosesSound) (n : Nat) : (s.ackNotice n).1.PosesSound := by
  unfold State.ackNotice
  repeat' split
  all_goals exact h

theorem clearValveFault (h : s.PosesSound) (ch : Nat) : (s.clearValveFault ch).1.PosesSound := by
  unfold State.clearValveFault
  repeat' split
  all_goals exact h

theorem driveTest (h : s.PosesSound) (ch c d : Nat) : (s.driveTest ch c d).1.PosesSound := by
  unfold State.driveTest
  repeat' split
  all_goals exact h

theorem driveTestStop (h : s.PosesSound) : s.driveTestStop.1.PosesSound := by
  unfold State.driveTestStop
  split <;> exact h

/-! ### Requests on tables -/

theorem putZone (h : s.PosesSound) (i : Nat) (p : List Byte) : (s.putZone i p).1.PosesSound := by
  unfold State.putZone
  dsimp only
  repeat' split
  all_goals exact h

theorem retireZone (h : s.PosesSound) (i : Nat) : (s.retireZone i).1.PosesSound := by
  unfold State.retireZone
  dsimp only
  repeat' split
  all_goals exact h

theorem putSector (h : s.PosesSound) (i : Nat) (p : List Byte) : (s.putSector i p).1.PosesSound := by
  unfold State.putSector
  dsimp only
  repeat' split
  all_goals exact h

theorem retireSector (h : s.PosesSound) (i : Nat) : (s.retireSector i).1.PosesSound := by
  unfold State.retireSector
  repeat' split
  all_goals exact h

theorem putSurface (h : s.PosesSound) (i : Nat) (p : List Byte) : (s.putSurface i p).1.PosesSound := by
  unfold State.putSurface
  repeat' split
  all_goals exact h

theorem retireSurface (h : s.PosesSound) (i : Nat) : (s.retireSurface i).1.PosesSound := by
  unfold State.retireSurface
  repeat' split
  all_goals exact h

theorem putItem (h : s.PosesSound) (i : Nat) (p : List Byte) : (s.putItem i p).1.PosesSound := by
  unfold State.putItem
  repeat' split
  any_goals exact h
  exact h.writeItem _ _

theorem retireItem (h : s.PosesSound) (i : Nat) : (s.retireItem i).1.PosesSound := by
  unfold State.retireItem
  repeat' split
  any_goals exact h
  rw [State.derateReport_frame]
  exact h

theorem putSource (h : s.PosesSound) (i : Nat) (p : List Byte) : (s.putSource i p).1.PosesSound := by
  unfold State.putSource
  repeat' split
  any_goals exact h
  exact h.writeSource _ _

theorem retireSourceEntry (h : s.PosesSound) (i : Nat) : (s.retireSourceEntry i).1.PosesSound := by
  unfold State.retireSourceEntry
  split
  · exact h
  · exact h.writeSource _ _

theorem putMode (h : s.PosesSound) (i : Nat) (p : List Byte) : (s.putMode i p).1.PosesSound := by
  unfold State.putMode State.writeMode
  dsimp only
  repeat' split
  all_goals exact h

theorem putChannel (h : s.PosesSound) (i : Nat) (p : List Byte) : (s.putChannel i p).1.PosesSound := by
  unfold State.putChannel
  split
  · exact h
  · exact h.writeChannel _ _

theorem retireChannel (h : s.PosesSound) (i : Nat) : (s.retireChannel i).1.PosesSound := by
  unfold State.retireChannel
  split
  · exact h
  · exact h.writeChannel _ _

theorem putGeometry (h : s.PosesSound) (i : Nat) (p : List Byte) : (s.putGeometry i p).1.PosesSound := by
  unfold State.putGeometry
  repeat' split
  any_goals exact h
  exact s.writeGeometry_posesSound _

theorem retireGeometry (h : s.PosesSound) (i : Nat) : (s.retireGeometry i).1.PosesSound := by
  unfold State.retireGeometry
  split
  · exact h
  · exact s.writeGeometry_posesSound _

theorem settingChanged (h : s.PosesSound) (before : Settings) (n : Nat) : (s.settingChanged before n).PosesSound := by
  unfold State.settingChanged
  split
  case h_1 => exact h.busRejoined
  case h_2 => exact h.demandWritten _
  case h_3 => exact h.demandWritten _
  case h_15 => exact h.judgeEngine
  case h_16 =>
    unfold State.autoIdleWritten
    repeat' split
    all_goals exact h
  case h_17 =>
    unfold State.shutdownWritten
    repeat' split
    all_goals exact h
  case h_18 => exact h.judgeActivity
  case h_20 => exact h.judgeOil
  all_goals exact h

theorem applySetting (h : s.PosesSound) (n : Nat) (x : Settings) : (s.applySetting n x).PosesSound := by
  unfold State.applySetting
  split
  · exact h
  · exact settingChanged (s := s.setSettings x) h _ _

theorem writeSetting (h : s.PosesSound) (n : Nat) (v : Int) : (s.writeSetting n v).1.PosesSound := by
  unfold State.writeSetting
  split
  · exact h
  · exact h.applySetting _ _

theorem putEntry (h : s.PosesSound) (table i : Nat) (p : List Byte) : (s.putEntry table i p).1.PosesSound := by
  unfold State.putEntry
  split
  · exact h
  split
  · exact h
  split
  · exact h.putZone _ _
  · exact h.putSector _ _
  · exact h.putSurface _ _
  · exact h.putItem _ _
  · exact h.putSource _ _
  · exact h.putMode _ _
  · exact h.putChannel _ _
  · exact h.putGeometry _ _
  · exact h.writeSetting _ _

theorem retireEntry (h : s.PosesSound) (table i : Nat) : (s.retireEntry table i).1.PosesSound := by
  unfold State.retireEntry
  split
  · exact h
  split
  · exact h.retireZone _
  · exact h.retireSector _
  · exact h.retireSurface _
  · exact h.retireItem _
  · exact h.retireSourceEntry _
  · exact h
  · exact h.retireChannel _
  · exact h.retireGeometry _
  · exact h.writeSetting _ _

/-! ### CLEAR_RETAINED -/

theorem clearEconomy (h : s.PosesSound) : s.clearEconomy.PosesSound := by
  unfold State.clearEconomy
  refine workOutTorque (judgeOil (judgeActivity (judgeEngine ?_)))
  exact h

theorem channelDefaults (l : List Nat) : ∀ s : State, s.PosesSound → (l.foldl State.channelDefault s).PosesSound := by
  induction l with
  | nil => exact fun _ h => h
  | cons ch l ih => exact fun _ h => ih _ (h.writeChannel ch _)

theorem clearValves (h : s.PosesSound) : s.clearValves.PosesSound := by
  unfold State.clearValves
  exact channelDefaults (List.range 4) s h

/-- What the owners before the Pose Unit do needs no account: its own default has a pose recomputed (R37), and the owners after
it leave that pose. -/
theorem clearRetained (s : State) : s.clearRetained.PosesSound := by
  have hlater (u : State) (h : u.PosesSound) : u.clearZones.clearLimiter.clearGrade.PosesSound := h
  have hservice (u : State) (h : u.PosesSound) : u.clearService.PosesSound := h
  have hnotices (u : State) (h : u.PosesSound) : u.clearNoticeSettings.PosesSound := h
  unfold State.clearRetained
  exact hnotices _ (hservice _ (hlater _ (State.writeGeometry_posesSound _ _)).clearEconomy).clearValves

theorem clearRetainedRequest (h : s.PosesSound) : s.clearRetainedRequest.1.PosesSound := by
  unfold State.clearRetainedRequest
  split
  · exact h
  split
  · exact h
  · dsimp only
    exact clearRetained s

/-! ### Every command -/

/-- An effect that keeps the invariant makes a step that keeps it. -/
theorem commit {t : State} (h : s.PosesSound) {f : State → State} (ht : s.commit f = .next t)
    (hf : ∀ u : State, u.PosesSound → (f u).PosesSound) : t.PosesSound := by
  by_cases hp : s.phase = .running
  · rw [State.commit_running hp] at ht
    cases ht
    exact hf s h
  · rw [State.commit_stopped hp] at ht
    cases ht
    exact h

theorem commitPins {t : State} (h : s.PosesSound) {p : Pins} {f : State → State} (ht : s.commitPins p f = .next t)
    (hf : ∀ u : State, u.PosesSound → (f u).PosesSound) : t.PosesSound := by
  by_cases hp : s.phase = .running
  · rw [State.commitPins_running hp] at ht
    cases ht
    exact hf { s with pins := p } h
  · rw [State.commitPins_stopped hp] at ht
    cases ht
    exact h

/-- A timer's expiry keeps the invariant where its effect does. -/
theorem commitExpire {t : State} (h : s.PosesSound) {pick : State → Timer} {f : State → State}
    (ht : s.commit (fun s => s.expire (pick s) f) = .next t) (hf : ∀ u : State, u.PosesSound → (f u).PosesSound) :
    t.PosesSound := by
  refine h.commit ht fun u hu => ?_
  cases hleft : pick u with
  | none => exact hu
  | some left => exact hf _ (hu.elapse left)

theorem exec {t : State} (h : s.PosesSound) (c : Instr) (ht : exec c s = .next t) : t.PosesSound := by
  cases c
  all_goals simp only [Machine.exec] at ht
  case frameArrival f =>
    refine h.commit ht fun u hu => ?_
    split
    · exact hu.frameArrives f
    · exact hu
  case sourceTimeoutExpiry slot =>
    exact h.commitExpire (pick := fun s => (s.slot slot.val).timer) ht fun _ hu => hu.sourceLost _
  case periodTimerExpiry b => exact h.commitExpire (pick := fun s => s.mbp.period) ht fun _ hu => hu.periodEnds b
  case transmissionAttemptEnd b => exact h.commit ht fun _ hu => hu.attemptEnds b
  case recoveryTimerExpiry => exact h.commitExpire (pick := fun s => s.mbp.recovery) ht fun _ hu => hu
  case slewStep a b =>
    refine h.commitPins ht fun u hu => ?_
    split <;> exact hu
  case indexMark =>
    refine h.commitPins ht fun u hu => ?_
    split <;> exact hu
  case gateTimerExpiry => exact h.commitExpire (pick := fun s => s.sc.gate) ht fun u _ => gateExpires u
  case editTimerExpiry => exact h.commitExpire (pick := fun s => s.zt.edit) ht fun _ hu => hu
  case holdTimerExpiry =>
    refine h.commitExpire (pick := fun s => s.gg.hold) ht fun u hu => ?_
    split <;> exact hu
  case autoIdleTimerExpiry =>
    refine h.commitExpire (pick := fun s => s.ec.autoIdle) ht fun u hu => ?_
    split <;> exact hu
  case shutdownTimerLeft =>
    refine h.commit ht fun u hu => ?_
    split
    · exact hu
    split
    · exact hu
    · exact (hu.elapse _).report _
  case shutdownTimerExpiry =>
    refine h.commitExpire (pick := fun s => s.ec.shutdown) ht fun u hu => ?_
    split <;> exact hu
  case shutdownWaitExpiry =>
    refine h.commitExpire (pick := fun s => s.ec.wait) ht fun u hu => ?_
    split <;> exact hu
  case quantumCompletion =>
    refine h.commit ht fun u hu => ?_
    split
    · unfold State.completeQuantum State.serviceQuantum
      rw [State.serviceEvent_frame]
      exact hu
    · exact hu
  case rampIntervalExpiry ch l =>
    refine h.commitExpire (pick := fun s => (s.vd.chan ch.val).ramp) ht fun u hu => ?_
    unfold State.rampExpires
    dsimp only
    split <;> exact hu
  case overCurrent ch i =>
    refine h.commit ht fun u hu => ?_
    split <;> exact hu
  case transactionStart =>
    refine h.commitPins ht fun u hu => ?_
    split <;> exact hu
  case responseReady =>
    refine h.commit ht fun u hu => ?_
    rw [State.prepare_frame]
    exact hu
  case putEntry table i p => exact h.commit ht fun _ hu => hu.putEntry table.toNat i.toNat p
  case retireEntry table i => exact h.commit ht fun _ hu => hu.retireEntry table.toNat i.toNat
  case openZones =>
    refine h.commit ht fun u hu => ?_
    unfold State.openZones
    split <;> exact hu
  case closeZones =>
    refine h.commit ht fun u hu => ?_
    split <;> exact hu
  case selectTarget i => exact h.commit ht fun _ hu => hu.selectTarget i.toNat
  case setWorkMode i =>
    refine h.commit ht fun u hu => ?_
    split
    · exact hu.selectMode i.toNat
    · exact hu
  case serviceDone i => exact h.commit ht fun _ hu => hu.serviceDone i.toNat
  case ackHead => exact h.commit ht fun _ hu => hu.ackHead
  case ackNotice n => exact h.commit ht fun _ hu => hu.ackNotice n.toNat
  case clearValveFault ch => exact h.commit ht fun _ hu => hu.clearValveFault ch.toNat
  case driveTest ch c d => exact h.commit ht fun _ hu => hu.driveTest ch.toNat c.toNat d.toNat
  case driveTestStop => exact h.commit ht fun _ hu => hu.driveTestStop
  case clearRetained => exact h.commit ht fun _ hu => hu.clearRetainedRequest.answer _ _ _
  case restart =>
    cases ht
    split
    · exact s.start_posesSound _
    · exact h
  case resetNAsserted =>
    cases ht
    split <;> exact h
  case reset =>
    cases ht
    split
    · exact h
    · exact State.start_posesSound _ _
  case powerOn =>
    cases ht
    split <;> exact s.judgeRetained.start_posesSound (lossReports s.backupDropped)
  case powerLoss =>
    cases ht
    exact h
  case backupDropped =>
    cases ht
    split <;> exact h
  case flashTimerExpiry lamp => exact h.commitExpire (pick := fun s => (s.nu.lamp lamp).flash) ht fun _ hu => hu
  case stretchTimerExpiry lamp => exact h.commitExpire (pick := fun s => (s.nu.lamp lamp).stretch) ht fun _ hu => hu
  case downQualificationExpiry => exact h.commitExpire (pick := fun s => s.vd.downQual) ht fun _ hu => hu
  case upQualificationExpiry => exact h.commitExpire (pick := fun s => s.vd.upQual) ht fun _ hu => hu
  case durationTimerExpiry => exact h.commitExpire (pick := fun s => s.vd.duration) ht fun _ hu => hu
  case supplyVoltageChange v => exact h.commitPins ht fun _ hu => hu
  case serviceKeyRelease => exact h.commitPins ht fun _ hu => hu
  case serviceKeyAsserted => exact h.commitPins ht fun _ hu => hu
  case slewZFall => exact h.commitPins ht fun _ hu => hu
  case transactionEnd sdi => exact h.commitPins ht fun _ hu => hu
  all_goals exact h.commit ht fun _ hu => hu

/-- A step keeps the invariant: a command does, and a tick only runs timers down. -/
theorem step {t : State} (h : s.PosesSound) (ht : step s = .next t) : t.PosesSound := by
  unfold Machine.step at ht
  split at ht
  · cases ht
    unfold State.idle
    split <;> exact h
  · next c rest _ => exact exec (s := { s with pending := rest }) h c ht

end State.PosesSound

end Sys2Proof.Machine

open Sys2Proof.Machine in
/-- Settles O15: whatever has a pose recomputed leaves all three poses sound (`State.recompute_posesSound`), a start sets them
(`State.start_posesSound`), and every other effect leaves them as they were. -/
theorem poseShapeKept : Obligations.PoseShapeKept := fun _ _ h ht => h.step ht
end

-- ==== Proofs of sitting 3: the Geometry record ====

section
/-! PROOFS. The Geometry record on the wire and its requests (03 R33 to R37). -/

namespace Sys2Proof.Machine

/-! ### Payloads of two-byte words -/

theorem field_words {ws : List Int} {k : Nat} (hk : k < ws.length) :
    field (ws.flatMap (toBeInt 2)) (2 * k) 2 = toBeInt 2 ws[k] := by
  induction ws generalizing k with
  | nil => exact absurd hk (Nat.not_lt_zero k)
  | cons w ws ih =>
    cases k with
    | zero => simp [field, toBeInt, toBe]
    | succ k =>
      have htail := ih (Nat.lt_of_succ_lt_succ hk)
      rw [field] at htail ⊢
      rw [List.flatMap_cons, show 2 * (k + 1) = (toBeInt 2 w).length + 2 * k by rw [toBeInt_length]; omega,
        List.drop_length_add_append, htail, List.getElem_cons_succ]

theorem fieldInt_words {ws : List Int} (hws : ∀ w ∈ ws, -32768 ≤ w ∧ w ≤ 32767) {k : Nat} (hk : k < ws.length) :
    fieldInt (ws.flatMap (toBeInt 2)) (2 * k) 2 = ws[k] := by
  obtain ⟨hlo, hhi⟩ := hws ws[k] (List.getElem_mem hk)
  rw [fieldInt, field_words hk, beInt_toBeInt (by norm_num; omega) (by norm_num; omega)]

/-! ### The record that a payload carries -/

/-- The dimensions and offsets that the fields of a payload spell. -/
def dimsFields (p : List Byte) : Dims :=
  { fr := fieldInt p 0 2, fz := fieldInt p 2 2, lb := fieldInt p 4 2, ls := fieldInt p 6 2, lk := fieldInt p 8 2
    ob := fieldInt p 10 2, os := fieldInt p 12 2, ok := fieldInt p 14 2 }

/-- The checks of R34. -/
abbrev GeometryInRange (g : Dims) (dig dump : Int) : Prop :=
  g.Sound ∧ -30000 ≤ dig ∧ dig ≤ 30000 ∧ -30000 ≤ dump ∧ dump ≤ 30000

theorem dimsOf_eq (p : List Byte) : dimsOf p = if (dimsFields p).Sound then some (dimsFields p) else none := rfl

theorem geometryOf_eq (p : List Byte) :
    geometryOf p =
      if GeometryInRange (dimsFields p) (fieldInt p 16 2) (fieldInt p 18 2) then
        some ({ dims := some (dimsFields p), dig := fieldInt p 16 2, dump := dumpAbove (fieldInt p 16 2) (fieldInt p 18 2) },
          decide (fieldInt p 18 2 < fieldInt p 16 2 + 500))
      else none := by
  rw [geometryOf, dimsOf_eq]
  by_cases hsound : (dimsFields p).Sound
  · rw [if_pos hsound]
    exact (if_congr (and_iff_right hsound) rfl rfl).symm
  · rw [if_neg hsound]
    exact (if_neg fun hrange => hsound hrange.1).symm

theorem geometryPayload_eq_words (g : Dims) (dig dump : Int) :
    geometryPayload g dig dump =
      [g.fr, g.fz, g.lb, g.ls, g.lk, g.ob, g.os, g.ok, dig, dump].flatMap (toBeInt 2) := by
  simp only [geometryPayload, List.flatMap_cons, List.flatMap_nil, List.append_nil, List.append_assoc]

theorem geometryPayload_length (g : Dims) (dig dump : Int) : (geometryPayload g dig dump).length = 20 := by
  simp only [geometryPayload, List.length_append, toBeInt_length]

/-- What a payload in range spells is what it was made of. -/
theorem fields_geometryPayload {g : Dims} {dig dump : Int} (h : GeometryInRange g dig dump) :
    dimsFields (geometryPayload g dig dump) = g ∧ fieldInt (geometryPayload g dig dump) 16 2 = dig ∧
      fieldInt (geometryPayload g dig dump) 18 2 = dump := by
  have hword : ∀ w ∈ [g.fr, g.fz, g.lb, g.ls, g.lk, g.ob, g.os, g.ok, dig, dump], -32768 ≤ w ∧ w ≤ 32767 := by
    simp only [List.forall_mem_cons, List.not_mem_nil, false_imp_iff, implies_true, and_true]
    omega
  have hfield {k : Nat} (hk : k < 10) := fieldInt_words hword hk
  rw [geometryPayload_eq_words]
  refine ⟨?_, hfield (k := 8) (by decide), hfield (k := 9) (by decide)⟩
  rw [dimsFields, hfield (k := 0) (by decide), hfield (k := 1) (by decide), hfield (k := 2) (by decide),
    hfield (k := 3) (by decide), hfield (k := 4) (by decide), hfield (k := 5) (by decide), hfield (k := 6) (by decide),
    hfield (k := 7) (by decide)]
  rfl

/-- A payload of twenty bytes is the one of what its fields spell. -/
theorem geometryPayload_fields {p : List Byte} (hp : p.length = 20) :
    geometryPayload (dimsFields p) (fieldInt p 16 2) (fieldInt p 18 2) = p := by
  simp (disch := omega) only [geometryPayload, dimsFields, toBeInt_fieldInt]
  calc field p 0 2 ++ field p 2 2 ++ field p 4 2 ++ field p 6 2 ++ field p 8 2 ++ field p 10 2 ++ field p 12 2 ++
        field p 14 2 ++ field p 16 2 ++ field p 18 2
      = p.take (18 + 2) := by
        rw [take_field p 18 2, take_field p 16 2, take_field p 14 2, take_field p 12 2, take_field p 10 2,
          take_field p 8 2, take_field p 6 2, take_field p 4 2, take_field p 2 2]
        rfl
    _ = p := List.take_of_length_le (by omega)

theorem geometryOf_payload {g : Dims} {dig dump : Int} (h : GeometryInRange g dig dump) :
    geometryOf (geometryPayload g dig dump) =
      some ({ dims := some g, dig, dump := dumpAbove dig dump }, decide (dump < dig + 500)) := by
  obtain ⟨hdims, hdig, hdump⟩ := fields_geometryPayload h
  rw [geometryOf_eq, hdims, hdig, hdump, if_pos h]

/-- A payload that no record in range has is refused. -/
theorem geometryOf_none {p : List Byte} (hp : p.length = 20)
    (h : ∀ (g : Dims) (dig dump : Int), GeometryInRange g dig dump → p ≠ geometryPayload g dig dump) :
    geometryOf p = none := by
  rw [geometryOf_eq]
  exact if_neg fun hrange => h _ _ _ hrange (geometryPayload_fields hp).symm

/-! ### The requests -/

section
variable {s : State}

theorem State.writeGeometry_eq (h : s.inbox = []) (g : Geometry) :
    s.writeGeometry g =
      State.recompute { s with ret := { s.ret with geometry := g }, inbox := [.condition 36 g.dims.isNone] } := by
  simp only [State.writeGeometry, State.report, h, List.nil_append, noticeGeometryUnset]

theorem State.putEntry_geometry (s : State) (i : Nat) {p : List Byte} (hp : p.length = 20) :
    s.putEntry 8 i p = s.putGeometry i p := by
  simp [State.putEntry, tableRefused, putLength, hp]

theorem exec_putGeometry (hrun : s.phase = .running) {p : List Byte} (hp : p.length = 20) {g : Geometry} {clamped : Bool}
    (h : geometryOf p = some (g, clamped)) :
    exec (.putEntry 8 0 p) s = .next ((s.writeGeometry g).answer 2 (okOr clamped) [0]).deliver := by
  refine exec_putEntry hrun ((s.putEntry_geometry _ hp).trans ?_)
  rw [State.putGeometry, if_neg (by decide), h]
  rfl

theorem exec_putGeometry_badValue (h : s.Ready) {p : List Byte} (hp : p.length = 20) (hnone : geometryOf p = none) :
    exec (.putEntry 8 0 p) s = .next (s.answer 2 .badValue []) := by
  refine exec_putEntry_refused h ((s.putEntry_geometry _ hp).trans ?_)
  rw [State.putGeometry, if_neg (by decide), hnone]

theorem exec_putGeometry_badIndex (h : s.Ready) {p : List Byte} (hp : p.length = 20) {i : Byte} (hi : i ≠ 0) :
    exec (.putEntry 8 i p) s = .next (s.answer 2 .badIndex []) :=
  exec_putEntry_refused h
    ((s.putEntry_geometry _ hp).trans (if_pos fun hzero => hi (BitVec.eq_of_toNat_eq hzero)))

theorem exec_retireGeometry_badIndex (h : s.Ready) {i : Byte} (hi : i ≠ 0) :
    exec (.retireEntry 8 i) s = .next (s.answer 3 .badIndex []) :=
  exec_retireEntry_refused h (if_pos fun hzero => hi (BitVec.eq_of_toNat_eq hzero))

end

end Sys2Proof.Machine

open Sys2Proof Sys2Proof.Machine in
/-- Settles O44: a payload in range reads back as its record (`geometryOf_payload`), and one that is refused is no record's
(`geometryOf_none`). -/
theorem geometryWritten : Obligations.GeometryWritten := by
  intro s h set inRange
  have hwrite (x : Geometry) : s.writeGeometry x = set x x.dims.isNone := State.writeGeometry_eq h.2 x
  refine ⟨fun g dig dump hrange => ⟨fun hapart => ?_, fun hnear => ?_⟩, ?_, fun p hp => ⟨fun hnone => ?_, fun i hi => ⟨?_, ?_⟩⟩⟩
  · have hexec := exec_putGeometry h.1 (geometryPayload_length g dig dump) (geometryOf_payload hrange)
    rw [hwrite, dumpAbove, if_neg (by omega), decide_eq_false (by omega)] at hexec
    exact hexec
  · have hexec := exec_putGeometry h.1 (geometryPayload_length g dig dump) (geometryOf_payload hrange)
    rw [hwrite, dumpAbove, if_pos hnear, decide_eq_true hnear] at hexec
    exact hexec
  · have hretire : s.retireEntry 8 (0 : Byte).toNat = (s.writeGeometry defaultGeometry, .ok, []) := rfl
    rw [hwrite] at hretire
    exact exec_retireEntry h.1 hretire
  · exact exec_putGeometry_badValue h hp (geometryOf_none hp hnone)
  · exact exec_putGeometry_badIndex h hp hi
  · exact exec_retireGeometry_badIndex h hi
end

-- ==== Proofs of sitting 4: the timers follow their states ====

section
/-! PROOFS. Each timer runs in its state and in no other (04 R57, 06 R99, 07 R113, R114, 10 R171, R172), block by block: the Zone
Table's mode, the floor record, the economy state and the drive test each move together with their timers. -/

namespace Sys2Proof.Machine

/-! ### The invariant of each block -/

/-- The edit timer runs exactly while the table is OPEN (R57). -/
abbrev Zt.TimerSound (z : Zt) : Prop := z.edit.isSome ↔ z.isOpen = true

/-- The hold timer runs exactly in HOLDING (R99). -/
abbrev HoldSound (f : FloorRecord) (hold : Timer) : Prop := hold.isSome ↔ f.state = .holding

/-- The three economy timers, `auto`, `shut` and `wait`, fit an economy state (R113, R114). -/
abbrev EconomyState.Fits (st : EconomyState) (auto shut wait : Timer) : Prop :=
  (auto.isSome ↔ st = .settling) ∧ (wait.isSome ↔ st = .shutdownRequested) ∧ (shut.isSome → st = .idling)

/-- The duration timer runs exactly while a drive test does (R171, R172). -/
abbrev Vd.TimerSound (v : Vd) : Prop := v.duration.isSome ↔ v.test.isSome

theorem State.timersSound_iff {s : State} :
    s.TimersSound ↔ s.zt.TimerSound ∧ HoldSound s.gg.floor s.gg.hold ∧
      s.ec.state.Fits s.ec.autoIdle s.ec.shutdown s.ec.wait ∧ s.vd.TimerSound := by
  simp only [State.TimersSound, and_assoc]

theorem Timer.elapse_isSome (t : Timer) (dt : Nat) : (t.elapse dt).isSome = t.isSome := Option.isSome_map

theorem floorMeasured_state_ne_holding (ret : Retained) (phi : Nat) (x y z : Int) :
    (floorMeasured ret phi x y z).state ≠ .holding := by
  unfold floorMeasured floorStateOf startFloor
  dsimp only
  repeat' split
  all_goals simp

/-- An evaluation starts the hold on entry into HOLDING and stops it on leaving (R98, R99). -/
theorem HoldSound.next {f : FloorRecord} {hold : Timer} (h : HoldSound f hold) (ret : Retained) (p : Pose) :
    HoldSound (floorNext ret p f) (holdNext ret p f hold) := by
  unfold floorNext holdNext
  cases p.complete with
  | some pose => simp [HoldSound, floorMeasured_state_ne_holding]
  | none =>
    dsimp only
    split
    · simp [HoldSound, startFloor]
    · unfold HoldSound at h ⊢
      cases hstate : f.state <;> simp_all

theorem EconomyState.fits_shutdownStart (x : Settings) : EconomyState.idling.Fits none x.shutdownStart none := by
  simp [EconomyState.Fits]

theorem Vd.TimerSound.endTest (v : Vd) : v.endTest.TimerSound := by simp [Vd.TimerSound, Vd.endTest]

theorem Vd.TimerSound.takeFault {v : Vd} (h : v.TimerSound) (ch : Nat) (kind : FaultKind) :
    (v.takeFault ch kind).TimerSound := by
  unfold Vd.takeFault Vd.endTestOf
  repeat' split
  · exact Vd.TimerSound.endTest _
  · exact h
  · exact h

theorem Vd.TimerSound.judgeSupply {v : Vd} (h : v.TimerSound) (down up supply : Nat) :
    (v.judgeSupply down up supply).TimerSound := by
  unfold Vd.judgeSupply
  split <;> exact h

theorem Vd.TimerSound.applyConfig {v : Vd} (h : v.TimerSound) (ch : Nat) (c : ChannelConfig) :
    (v.applyConfig ch c).TimerSound := by
  have hmap (f : DriveTest → DriveTest) : v.duration.isSome ↔ (v.test.map f).isSome := by
    rw [Option.isSome_map]
    exact h
  exact hmap _

namespace State.TimersSound

variable {s : State}

/-! ### One block replaced -/

theorem setZt (h : s.TimersSound) {z : Zt} (hz : z.TimerSound) : State.TimersSound { s with zt := z } := ⟨hz, h.2⟩

theorem setFloor (h : s.TimersSound) {f : FloorRecord} {hold : Timer} (hf : HoldSound f hold) :
    (s.setFloor f hold).TimersSound := ⟨h.1, hf, h.2.2⟩

theorem setHold (h : s.TimersSound) (hf : s.gg.floor.state ≠ .holding) :
    State.TimersSound { s with gg := { s.gg with hold := none } } := ⟨h.1, by simp [hf], h.2.2⟩

theorem setEc (h : s.TimersSound) {e : Ec} (he : e.state.Fits e.autoIdle e.shutdown e.wait) :
    State.TimersSound { s with ec := e } := by
  obtain ⟨hzt, hgg, -, hvd⟩ := State.timersSound_iff.mp h
  exact State.timersSound_iff.mpr ⟨hzt, hgg, he, hvd⟩

theorem setVd (h : s.TimersSound) {v : Vd} (hv : v.TimerSound) : State.TimersSound { s with vd := v } := by
  obtain ⟨hzt, hgg, hec, -⟩ := State.timersSound_iff.mp h
  exact State.timersSound_iff.mpr ⟨hzt, hgg, hec, hv⟩

/-! ### Operations that several commands share -/

theorem elapse (h : s.TimersSound) (dt : Nat) : (s.elapse dt).TimersSound := by
  have hmap (t : Timer) : (t.elapse dt).isSome = t.isSome := t.elapse_isSome dt
  simp only [State.TimersSound, State.elapse, Ec.elapse, Vd.elapse, hmap]
  exact h

theorem report (h : s.TimersSound) (rs : List Report) : (s.report rs).TimersSound := h

theorem answer (h : s.TimersSound) (code : Nat) (r : ResultCode) (p : List Byte) : (s.answer code r p).TimersSound := h

theorem evaluateLimits (h : s.TimersSound) : s.evaluateLimits.TimersSound := h

theorem evaluateGrade (h : s.TimersSound) : s.evaluateGrade.TimersSound :=
  setFloor (s := { s with gg := { s.gg with guidance := guidanceOf s.ret s.gg.held } }) h (HoldSound.next h.2.1 _ _)

theorem workOutTorque (h : s.TimersSound) : s.workOutTorque.TimersSound := by
  unfold State.workOutTorque
  split <;> exact h

theorem derateReport (h : s.TimersSound) (due : Bool) : (s.derateReport due).TimersSound := by
  unfold State.derateReport
  split
  · exact h.workOutTorque
  · exact h

theorem serviceEvent (h : s.TimersSound) (p : ServiceBasis → Bool) (f : Item → Item) : (s.serviceEvent p f).TimersSound := by
  unfold State.serviceEvent
  exact derateReport (s := State.report { s with ret := _ } _) h _

theorem writeItem (h : s.TimersSound) (i : Nat) (it : Item) : (s.writeItem i it).TimersSound := by
  unfold State.writeItem
  exact derateReport (s := State.report { s with ret := _ } _) h _

theorem recompute (h : s.TimersSound) : s.recompute.TimersSound := by
  have hevaluated : (s.publish s.nextPose).evaluateLimits.evaluateGrade.TimersSound :=
    evaluateGrade (s := (s.publish s.nextPose).evaluateLimits) h
  unfold State.recompute
  dsimp only
  split
  · exact hevaluated.serviceEvent _ _
  · exact hevaluated

theorem takeFault (h : s.TimersSound) (ch : Nat) (kind : FaultKind) : (s.takeFault ch kind).TimersSound :=
  h.setVd (Vd.TimerSound.takeFault h.2.2.2.2.2 ch kind)

theorem endTest (h : s.TimersSound) : State.TimersSound { s with vd := s.vd.endTest } := h.setVd (Vd.TimerSound.endTest _)

theorem judgeSupply (h : s.TimersSound) : s.judgeSupply.TimersSound :=
  h.setVd (Vd.TimerSound.judgeSupply h.2.2.2.2.2 _ _ _)

/-! ### Moves of the economy state (R112 to R114) -/

theorem ecoMove (h : s.TimersSound) {st : EconomyState} {auto shut wait : Timer} (hfits : st.Fits auto shut wait) :
    (s.ecoMove st auto shut wait).TimersSound := by
  unfold State.ecoMove
  refine workOutTorque (report ?_ _)
  split
  · exact h.setEc (e := { s.ec with state := st, autoIdle := auto, shutdown := shut, wait := wait }) hfits
  · exact h.endTest.setEc (e := { s.ec with state := st, autoIdle := auto, shutdown := shut, wait := wait }) hfits

theorem enterSettling (h : s.TimersSound) : (s.ecoMove .settling s.ret.settings.autoIdleStart none none).TimersSound :=
  h.ecoMove (by simp [EconomyState.Fits, Settings.autoIdleStart])

theorem enterWorkingState (h : s.TimersSound) : (s.ecoMove .working none none none).TimersSound :=
  h.ecoMove (by simp [EconomyState.Fits])

theorem enterIdling (h : s.TimersSound) : (s.ecoMove .idling none s.ret.settings.shutdownStart none).TimersSound :=
  h.ecoMove (EconomyState.fits_shutdownStart _)

theorem judgeEngine (h : s.TimersSound) : s.judgeEngine.TimersSound := by
  unfold State.judgeEngine State.enterWorking
  repeat' split
  any_goals exact h
  · exact h.enterWorkingState
  · exact h.enterSettling
  · exact h.ecoMove (by simp [EconomyState.Fits])

theorem judgeActivity (h : s.TimersSound) : s.judgeActivity.TimersSound := by
  have hactive : State.TimersSound { s with ec := { s.ec with active := activityNow s.ret.settings s.ec } } := h
  unfold State.judgeActivity State.activityBegins State.activityEnds
  dsimp only
  repeat' split
  any_goals exact hactive
  · exact hactive.enterWorkingState
  · exact hactive.enterWorkingState
  · exact hactive.enterSettling

theorem judgeOil (h : s.TimersSound) : s.judgeOil.TimersSound := by
  unfold State.judgeOil
  dsimp only
  split
  · exact h
  · exact workOutTorque (s := State.report { s with ec := _ } _) h

theorem autoIdleWritten (h : s.TimersSound) (before : Nat) : (s.autoIdleWritten before).TimersSound := by
  unfold State.autoIdleWritten
  repeat' split
  any_goals exact h
  · exact h.enterWorkingState
  · exact h.enterSettling

/-- Outside IDLING the shutdown timer is stopped already, and a write of the delay leaves it (R113). -/
theorem shutdownWritten (h : s.TimersSound) (before : Nat) : (s.shutdownWritten before).TimersSound := by
  obtain ⟨-, -, ⟨hauto, hwait, -⟩, -⟩ := State.timersSound_iff.mp h
  unfold State.shutdownWritten
  split
  · next hidling =>
    have hwrite (timer : Timer) : State.TimersSound { s with ec := { s.ec with shutdown := timer } } :=
      h.setEc ⟨hauto, hwait, fun _ => hidling⟩
    split
    · exact hwrite none
    split
    · exact hwrite _
    · exact h
  · exact h

/-! ### Samples, slots, gates -/

theorem ecSource (h : s.TimersSound) (i : Nat) (x : SourceSlot) (accepted : Bool) : (s.ecSource i x accepted).TimersSound := by
  have hcopied : State.TimersSound { s with ec := { s.ec with copies := s.ec.copies.set (i - 3) ⟨x.state, x.lastGood⟩ } } := h
  unfold State.ecSource
  dsimp only
  split
  · split
    · rw [State.pumpSample_frame]
      unfold State.pumpSample
      split <;> exact hcopied
    · exact hcopied
  · exact hcopied.judgeEngine
  · split
    · exact hcopied
    · unfold State.fuelState
      split <;> exact hcopied
  · exact hcopied.judgeOil
  · exact hcopied.judgeActivity
  · exact hcopied

theorem tellConsumer (h : s.TimersSound) (i : Nat) (changed accepted : Bool) :
    (s.tellConsumer i changed accepted).TimersSound := by
  unfold State.tellConsumer
  split
  · split
    · exact recompute (s := { s with pu := _ }) h
    · exact h
  split
  · exact h.ecSource _ _ _
  · exact h

theorem takeSample (h : s.TimersSound) (f : CanFrame) (i : Nat) : (State.takeSample f s i).TimersSound := by
  unfold State.takeSample
  split
  · exact tellConsumer (s := (s.setSlot i _).report _) h _ _ _
  · exact tellConsumer (s := (s.setSlot i _).report _) h _ _ _

theorem frameArrives (h : s.TimersSound) (f : CanFrame) : (s.frameArrives f).TimersSound :=
  List.foldlRecOn (motive := State.TimersSound) _ (State.takeSample f) (b := { s with choice := _ }) h
    fun _ hu i _ => takeSample hu f i

theorem sourceLost (h : s.TimersSound) (i : Nat) : (s.sourceLost i).TimersSound :=
  tellConsumer (s := (s.setSlot i _).report _) h _ _ _

theorem writeSource (h : s.TimersSound) (i : Nat) (x : SourceRecord) : (s.writeSource i x).TimersSound :=
  tellConsumer (s := ((s.setSource i x).setSlot i _).report _) h _ _ _

theorem puGate (h : s.TimersSound) (phi : Nat) (r : Bool) (w : Int) : (s.puGate phi r w).TimersSound :=
  recompute (s := { s with pu := { s.pu with gatePhi := phi, gateRef := r, gateOmega := w } }) h

theorem ecGate (h : s.TimersSound) (w : Int) : (s.ecGate w).TimersSound :=
  judgeActivity (s := { s with ec := { s.ec with omega := w, gateStill := s.ret.settings.still } }) h

theorem closeGate (h : s.TimersSound) (count : Nat) (r : Bool) : (s.closeGate count r).TimersSound := by
  have hgate (phi : Nat) (w : Int) : ((({ s with sc := s.sc.closed s.ret.settings }).puGate phi r w).ecGate w).TimersSound :=
    (puGate (s := { s with sc := s.sc.closed s.ret.settings }) h phi r w).ecGate w
  unfold State.closeGate
  dsimp only
  split
  · exact (hgate _ _).serviceEvent _ _
  · exact hgate _ _

theorem gateExpires (h : s.TimersSound) : s.gateExpires.TimersSound := by
  unfold State.gateExpires
  split <;> exact h.closeGate _ _

/-- The meters and the figures of the quantum govern no timer (R120 to R122). -/
theorem setQuantum (h : s.TimersSound) (r : Retained) (partialMs overMs : Nat) (sum : Int) (count : Nat) :
    State.TimersSound { s with
      ret := r
      ec := { s.ec with partialMs := partialMs, overMs := overMs, pumpSum := sum, pumpCount := count } } := h

theorem completeQuantum (h : s.TimersSound) : s.completeQuantum.TimersSound := by
  unfold State.completeQuantum State.serviceQuantum
  exact (h.setQuantum _ _ _ _ _).serviceEvent _ _

theorem periodEnds (h : s.TimersSound) (b : Bool) : (s.periodEnds b).TimersSound := by
  unfold State.periodEnds
  repeat' split
  all_goals exact h

theorem attemptEnds (h : s.TimersSound) (b : Bool) : (s.attemptEnds b).TimersSound := by
  unfold State.attemptEnds
  repeat' split
  all_goals exact h

/-! ### The Zone Table's mode (R57 to R61) -/

theorem startEdit (h : s.TimersSound) (hopen : s.zt.isOpen = true) : s.startEdit.TimersSound :=
  h.setZt (by simp [Zt.TimerSound, hopen])

theorem openZones (h : s.TimersSound) : s.openZones.TimersSound := by
  unfold State.openZones
  split
  · next hopen => exact h.startEdit hopen
  · exact evaluateLimits (s := State.report { s.startEdit with zt := { s.startEdit.zt with isOpen := true } } _)
      (h.setZt (z := { s.zt with edit := _, isOpen := true }) (by simp [Zt.TimerSound]))

theorem closeTable (h : s.TimersSound) (rs : List Report) : (s.closeTable rs).TimersSound :=
  evaluateLimits (s := State.report { s with zt := { s.zt with isOpen := false, edit := none } } rs)
    (h.setZt (by simp [Zt.TimerSound]))

/-! ### Requests -/

theorem selectTarget (h : s.TimersSound) (i : Nat) : (s.selectTarget i).1.TimersSound := by
  unfold State.selectTarget State.setSelection
  repeat' split
  any_goals exact h
  all_goals exact evaluateGrade (s := { s with ret := _ }) h

theorem selectMode (h : s.TimersSound) (i : Nat) : (s.selectMode i).TimersSound := by
  obtain ⟨-, -, ⟨-, hwait, hshut⟩, -⟩ := State.timersSound_iff.mp h
  have hselected : State.TimersSound { s with ret := { s.ret with selectedMode := i } } := h
  unfold State.selectMode
  dsimp only
  split
  · next hsettling =>
    exact workOutTorque (hselected.setEc (e := { s.ec with autoIdle := s.ret.settings.autoIdleStart })
      ⟨by simp [hsettling, Settings.autoIdleStart], hwait, hshut⟩)
  · split
    · exact hselected.enterWorkingState
    · exact hselected.enterSettling
  · exact hselected.workOutTorque

theorem serviceDone (h : s.TimersSound) (i : Nat) : (s.serviceDone i).1.TimersSound := by
  unfold State.serviceDone
  repeat' split
  any_goals exact h
  exact h.writeItem _ _

theorem ackHead (h : s.TimersSound) : s.ackHead.1.TimersSound := by
  unfold State.ackHead
  split <;> exact h

theorem ackNotice (h : s.TimersSound) (n : Nat) : (s.ackNotice n).1.TimersSound := by
  unfold State.ackNotice
  repeat' split
  all_goals exact h

theorem clearValveFault (h : s.TimersSound) (ch : Nat) : (s.clearValveFault ch).1.TimersSound := by
  unfold State.clearValveFault
  repeat' split
  all_goals exact h

theorem driveTest (h : s.TimersSound) (ch c d : Nat) : (s.driveTest ch c d).1.TimersSound := by
  unfold State.driveTest
  repeat' split
  any_goals exact h
  exact h.setVd (v := s.vd.startTest _ _ _) (by simp [Vd.TimerSound, Vd.startTest])

theorem driveTestStop (h : s.TimersSound) : s.driveTestStop.1.TimersSound := by
  unfold State.driveTestStop
  split
  · exact h.endTest
  · exact h

/-! ### Requests on tables -/

theorem putZone (h : s.TimersSound) (i : Nat) (p : List Byte) : (s.putZone i p).1.TimersSound := by
  unfold State.putZone
  split
  · exact h
  next hopen =>
    have hedit : s.startEdit.TimersSound := h.startEdit (by simpa using hopen)
    dsimp only
    repeat' split
    all_goals exact hedit

theorem retireZone (h : s.TimersSound) (i : Nat) : (s.retireZone i).1.TimersSound := by
  unfold State.retireZone
  split
  · exact h
  next hopen =>
    have hedit : s.startEdit.TimersSound := h.startEdit (by simpa using hopen)
    dsimp only
    repeat' split
    all_goals exact hedit

theorem putSector (h : s.TimersSound) (i : Nat) (p : List Byte) : (s.putSector i p).1.TimersSound := by
  unfold State.putSector
  split
  · exact h
  next hopen =>
    have hedit : s.startEdit.TimersSound := h.startEdit (by simpa using hopen)
    dsimp only
    repeat' split
    all_goals exact hedit

theorem retireSector (h : s.TimersSound) (i : Nat) : (s.retireSector i).1.TimersSound := by
  unfold State.retireSector
  split
  · exact h
  next hopen =>
    have hedit : s.startEdit.TimersSound := h.startEdit (by simpa using hopen)
    split <;> exact hedit

theorem writeSurface (h : s.TimersSound) (i : Nat) (e : Option Surface) : (s.writeSurface i e).TimersSound :=
  evaluateGrade (s := { s with ret := _ }) h

theorem putSurface (h : s.TimersSound) (i : Nat) (p : List Byte) : (s.putSurface i p).1.TimersSound := by
  unfold State.putSurface
  repeat' split
  any_goals exact h
  exact h.writeSurface _ _

theorem retireSurface (h : s.TimersSound) (i : Nat) : (s.retireSurface i).1.TimersSound := by
  unfold State.retireSurface
  repeat' split
  any_goals exact h
  exact h.writeSurface _ _

theorem putItem (h : s.TimersSound) (i : Nat) (p : List Byte) : (s.putItem i p).1.TimersSound := by
  unfold State.putItem
  repeat' split
  any_goals exact h
  exact h.writeItem _ _

theorem retireItem (h : s.TimersSound) (i : Nat) : (s.retireItem i).1.TimersSound := by
  unfold State.retireItem
  repeat' split
  any_goals exact h
  exact derateReport (s := State.report { s with ret := _ } _) h _

theorem putSource (h : s.TimersSound) (i : Nat) (p : List Byte) : (s.putSource i p).1.TimersSound := by
  unfold State.putSource
  repeat' split
  any_goals exact h
  exact h.writeSource _ _

theorem retireSourceEntry (h : s.TimersSound) (i : Nat) : (s.retireSourceEntry i).1.TimersSound := by
  unfold State.retireSourceEntry
  split
  · exact h
  · exact h.writeSource _ _

theorem putMode (h : s.TimersSound) (i : Nat) (p : List Byte) : (s.putMode i p).1.TimersSound := by
  unfold State.putMode State.writeMode
  dsimp only
  repeat' split
  any_goals exact h
  exact workOutTorque (s := { s with ret := _ }) h

/-- A channel's configuration keeps a running test running and the floor record's state (R161). -/
theorem writeChannel (h : s.TimersSound) (ch : Nat) (c : ChannelConfig) : (s.writeChannel ch c).TimersSound := by
  have hconfig : State.TimersSound
      { s with ret := { s.ret with configs := s.ret.configs.set ch c }, vd := s.vd.applyConfig ch c } :=
    setVd (s := { s with ret := _ }) h (Vd.TimerSound.applyConfig h.2.2.2.2.2 ch c)
  unfold State.writeChannel State.handBack
  split <;> exact hconfig

theorem putChannel (h : s.TimersSound) (i : Nat) (p : List Byte) : (s.putChannel i p).1.TimersSound := by
  unfold State.putChannel
  split
  · exact h
  · exact h.writeChannel _ _

theorem retireChannel (h : s.TimersSound) (i : Nat) : (s.retireChannel i).1.TimersSound := by
  unfold State.retireChannel
  split
  · exact h
  · exact h.writeChannel _ _

theorem writeGeometry (h : s.TimersSound) (g : Geometry) : (s.writeGeometry g).TimersSound :=
  recompute (s := State.report { s with ret := _ } _) h

theorem putGeometry (h : s.TimersSound) (i : Nat) (p : List Byte) : (s.putGeometry i p).1.TimersSound := by
  unfold State.putGeometry
  repeat' split
  any_goals exact h
  exact h.writeGeometry _

theorem retireGeometry (h : s.TimersSound) (i : Nat) : (s.retireGeometry i).1.TimersSound := by
  unfold State.retireGeometry
  split
  · exact h
  · exact h.writeGeometry _

theorem settingChanged (h : s.TimersSound) (before : Settings) (n : Nat) : (s.settingChanged before n).TimersSound := by
  unfold State.settingChanged
  split
  case h_1 =>
    rw [State.busRejoined_frame]
    exact h
  case h_2 =>
    rw [State.demandWritten_frame]
    exact h
  case h_3 =>
    rw [State.demandWritten_frame]
    exact h
  case h_13 => exact h.evaluateGrade
  case h_14 => exact h.evaluateGrade
  case h_15 => exact h.judgeEngine
  case h_16 => exact h.autoIdleWritten _
  case h_17 => exact h.shutdownWritten _
  case h_18 => exact h.judgeActivity
  case h_19 => exact h.workOutTorque
  case h_20 => exact h.judgeOil
  case h_21 => exact h.workOutTorque
  case h_22 => exact h.judgeSupply
  case h_23 => exact h.judgeSupply
  all_goals exact h

theorem applySetting (h : s.TimersSound) (n : Nat) (x : Settings) : (s.applySetting n x).TimersSound := by
  unfold State.applySetting
  split
  · exact h
  · exact settingChanged (s := s.setSettings x) h _ _

theorem writeSetting (h : s.TimersSound) (n : Nat) (v : Int) : (s.writeSetting n v).1.TimersSound := by
  unfold State.writeSetting
  split
  · exact h
  · exact h.applySetting _ _

theorem putEntry (h : s.TimersSound) (table i : Nat) (p : List Byte) : (s.putEntry table i p).1.TimersSound := by
  unfold State.putEntry
  split
  · exact h
  split
  · exact h
  split
  · exact h.putZone _ _
  · exact h.putSector _ _
  · exact h.putSurface _ _
  · exact h.putItem _ _
  · exact h.putSource _ _
  · exact h.putMode _ _
  · exact h.putChannel _ _
  · exact h.putGeometry _ _
  · exact h.writeSetting _ _

theorem retireEntry (h : s.TimersSound) (table i : Nat) : (s.retireEntry table i).1.TimersSound := by
  unfold State.retireEntry
  split
  · exact h
  split
  · exact h.retireZone _
  · exact h.retireSector _
  · exact h.retireSurface _
  · exact h.retireItem _
  · exact h.retireSourceEntry _
  · exact h
  · exact h.retireChannel _
  · exact h.retireGeometry _
  · exact h.writeSetting _ _

/-! ### Resets and CLEAR_RETAINED -/

/-- Every start stops the six timers and leaves each block in a state that asks for none (R69, R104, R126, R174). -/
theorem start (s : State) (extra : List Report) : (s.start extra).TimersSound := by
  have hstopped : (startVd s.ret.evaluated s.pins.supply).TimerSound := Vd.TimerSound.judgeSupply (by simp [Vd.TimerSound]) _ _ _
  have hhold : HoldSound startFloor none := by simp [HoldSound, startFloor]
  have hstate : EconomyState.stopped.Fits none none none := by simp [EconomyState.Fits]
  have hzt : startZt.TimerSound := by simp [startZt]
  exact State.timersSound_iff.mpr ⟨hzt, hhold, hstate, hstopped⟩

theorem foldl {α : Type} {op : State → α → State} (hop : ∀ (u : State) (a : α), u.TimersSound → (op u a).TimersSound)
    (l : List α) (h : s.TimersSound) : (l.foldl op s).TimersSound :=
  List.foldlRecOn (motive := State.TimersSound) l op h fun u hu a _ => hop u a hu

theorem settingDefaults (h : s.TimersSound) (l : List Nat) : (l.foldl State.settingDefault s).TimersSound := by
  refine foldl (fun u n hu => ?_) l h
  unfold State.settingDefault
  exact hu.applySetting n _

theorem clearBus (h : s.TimersSound) : s.clearBus.TimersSound := by
  have hslots := foldl (op := State.retireSource) (fun _ i hu => hu.writeSource i _) (List.range 8) h
  unfold State.clearBus
  exact settingDefaults hslots _

theorem clearSlew (h : s.TimersSound) : s.clearSlew.TimersSound := by
  unfold State.clearSlew
  exact h.settingDefaults _

theorem clearZones (h : s.TimersSound) : s.clearZones.TimersSound := h

theorem clearLimiter (h : s.TimersSound) : s.clearLimiter.TimersSound := h

theorem clearGrade (h : s.TimersSound) : s.clearGrade.TimersSound := by
  unfold State.clearGrade
  refine evaluateGrade ?_
  exact h

theorem clearEconomy (h : s.TimersSound) : s.clearEconomy.TimersSound := by
  unfold State.clearEconomy
  refine workOutTorque (judgeOil (judgeActivity (judgeEngine ?_)))
  exact h

theorem clearService (h : s.TimersSound) : s.clearService.TimersSound := by
  unfold State.clearService
  refine workOutTorque ?_
  exact h

theorem clearValves (h : s.TimersSound) : s.clearValves.TimersSound := by
  have hchannels := foldl (op := State.channelDefault) (fun _ ch hu => hu.writeChannel ch _) (List.range 4) h
  unfold State.clearValves
  refine judgeSupply ?_
  exact hchannels

theorem clearNoticeSettings (h : s.TimersSound) : s.clearNoticeSettings.TimersSound := h

theorem clearRetained (h : s.TimersSound) : s.clearRetained.TimersSound := by
  have grade := (h.clearBus.clearSlew.writeGeometry defaultGeometry).clearZones.clearLimiter.clearGrade
  have valves := grade.clearEconomy.clearService.clearValves
  exact valves.clearNoticeSettings

theorem clearRetainedRequest (h : s.TimersSound) : s.clearRetainedRequest.1.TimersSound := by
  unfold State.clearRetainedRequest
  split
  · exact h
  split
  · exact h
  · exact h.clearRetained

/-! ### Every command -/

/-- An effect that keeps the invariant makes a step that keeps it. -/
theorem commit {t : State} (h : s.TimersSound) {f : State → State} (ht : s.commit f = .next t)
    (hf : ∀ u : State, u.TimersSound → (f u).TimersSound) : t.TimersSound := by
  by_cases hp : s.phase = .running
  · rw [State.commit_running hp] at ht
    cases ht
    exact hf s h
  · rw [State.commit_stopped hp] at ht
    cases ht
    exact h

theorem commitPins {t : State} (h : s.TimersSound) {p : Pins} {f : State → State} (ht : s.commitPins p f = .next t)
    (hf : ∀ u : State, u.TimersSound → (f u).TimersSound) : t.TimersSound := by
  by_cases hp : s.phase = .running
  · rw [State.commitPins_running hp] at ht
    cases ht
    exact hf { s with pins := p } h
  · rw [State.commitPins_stopped hp] at ht
    cases ht
    exact h

/-- A timer's expiry keeps the invariant where its effect does. -/
theorem commitExpire {t : State} (h : s.TimersSound) {pick : State → Timer} {f : State → State}
    (ht : s.commit (fun s => s.expire (pick s) f) = .next t) (hf : ∀ u : State, u.TimersSound → (f u).TimersSound) :
    t.TimersSound := by
  refine h.commit ht fun u hu => ?_
  cases hleft : pick u with
  | none => exact hu
  | some left => exact hf _ (hu.elapse left)

theorem exec {t : State} (h : s.TimersSound) (c : Instr) (ht : exec c s = .next t) : t.TimersSound := by
  cases c
  all_goals simp only [Machine.exec] at ht
  case frameArrival f =>
    refine h.commit ht fun u hu => ?_
    split
    · exact hu.frameArrives f
    · exact hu
  case sourceTimeoutExpiry slot =>
    exact h.commitExpire (pick := fun s => (s.slot slot.val).timer) ht fun _ hu => hu.sourceLost _
  case periodTimerExpiry b => exact h.commitExpire (pick := fun s => s.mbp.period) ht fun _ hu => hu.periodEnds b
  case transmissionAttemptEnd b => exact h.commit ht fun _ hu => hu.attemptEnds b
  case recoveryTimerExpiry => exact h.commitExpire (pick := fun s => s.mbp.recovery) ht fun _ hu => hu
  case slewStep a b =>
    refine h.commitPins ht fun u hu => ?_
    split <;> exact hu
  case indexMark =>
    refine h.commitPins ht fun u hu => ?_
    split <;> exact hu
  case gateTimerExpiry => exact h.commitExpire (pick := fun s => s.sc.gate) ht fun _ hu => hu.gateExpires
  case editTimerExpiry => exact h.commitExpire (pick := fun s => s.zt.edit) ht fun _ hu => hu.closeTable _
  case holdTimerExpiry =>
    refine h.commitExpire (pick := fun s => s.gg.hold) ht fun u hu => ?_
    split
    · exact hu.setFloor (by simp [HoldSound, floorUnavailable])
    · next hother => exact hu.setHold hother
  case autoIdleTimerExpiry =>
    refine h.commitExpire (pick := fun s => s.ec.autoIdle) ht fun u hu => ?_
    split
    · exact hu.enterIdling
    · next hother =>
      obtain ⟨-, -, ⟨-, hwait, hshut⟩, -⟩ := State.timersSound_iff.mp hu
      exact hu.setEc ⟨by simp [hother], hwait, hshut⟩
  case shutdownTimerLeft =>
    refine h.commit ht fun u hu => ?_
    split
    · exact hu
    split
    · exact hu
    · exact (hu.elapse _).report _
  case shutdownTimerExpiry =>
    refine h.commitExpire (pick := fun s => s.ec.shutdown) ht fun u hu => ?_
    split
    · exact hu.ecoMove (by simp [EconomyState.Fits])
    · obtain ⟨-, -, ⟨hauto, hwait, -⟩, -⟩ := State.timersSound_iff.mp hu
      exact hu.setEc ⟨hauto, hwait, by simp⟩
  case shutdownWaitExpiry =>
    refine h.commitExpire (pick := fun s => s.ec.wait) ht fun u hu => ?_
    split
    · exact hu.enterIdling
    · next hother =>
      obtain ⟨-, -, ⟨hauto, -, hshut⟩, -⟩ := State.timersSound_iff.mp hu
      exact hu.setEc ⟨hauto, by simp [hother], hshut⟩
  case quantumCompletion =>
    refine h.commit ht fun u hu => ?_
    split
    · exact (hu.elapse _).completeQuantum
    · exact hu
  case flashTimerExpiry lamp => exact h.commitExpire (pick := fun s => (s.nu.lamp lamp).flash) ht fun _ hu => hu
  case stretchTimerExpiry lamp => exact h.commitExpire (pick := fun s => (s.nu.lamp lamp).stretch) ht fun _ hu => hu
  case rampIntervalExpiry ch l =>
    refine h.commitExpire (pick := fun s => (s.vd.chan ch.val).ramp) ht fun u hu => ?_
    unfold State.rampExpires
    dsimp only
    split
    · refine takeFault ?_ _ _
      exact hu
    · exact hu
  case overCurrent ch i =>
    refine h.commit ht fun u hu => ?_
    split
    · exact hu.takeFault _ _
    · exact hu
  case supplyVoltageChange v => exact h.commitPins ht fun _ hu => hu.judgeSupply
  case downQualificationExpiry =>
    refine h.commitExpire (pick := fun s => s.vd.downQual) ht fun u hu => judgeSupply ?_
    exact hu
  case upQualificationExpiry =>
    refine h.commitExpire (pick := fun s => s.vd.upQual) ht fun u hu => judgeSupply ?_
    exact hu
  case durationTimerExpiry => exact h.commitExpire (pick := fun s => s.vd.duration) ht fun _ hu => hu.endTest
  case serviceKeyRelease => exact h.commitPins ht fun _ hu => hu.endTest
  case transactionStart =>
    refine h.commitPins ht fun u hu => ?_
    split <;> exact hu
  case transactionEnd sdi => exact h.commitPins ht fun _ hu => hu
  case responseReady =>
    refine h.commit ht fun u hu => ?_
    rw [State.prepare_frame]
    exact hu
  case putEntry table i p => exact h.commit ht fun _ hu => hu.putEntry table.toNat i.toNat p
  case retireEntry table i => exact h.commit ht fun _ hu => hu.retireEntry table.toNat i.toNat
  case openZones => exact h.commit ht fun _ hu => hu.openZones
  case closeZones =>
    refine h.commit ht fun u hu => ?_
    split
    · exact hu.closeTable _
    · exact hu
  case selectTarget i => exact h.commit ht fun _ hu => hu.selectTarget i.toNat
  case setWorkMode i =>
    refine h.commit ht fun u hu => ?_
    split
    · exact hu.selectMode i.toNat
    · exact hu
  case serviceDone i => exact h.commit ht fun _ hu => hu.serviceDone i.toNat
  case ackHead => exact h.commit ht fun _ hu => hu.ackHead
  case ackNotice n => exact h.commit ht fun _ hu => hu.ackNotice n.toNat
  case clearValveFault ch => exact h.commit ht fun _ hu => hu.clearValveFault ch.toNat
  case driveTest ch c d => exact h.commit ht fun _ hu => hu.driveTest ch.toNat c.toNat d.toNat
  case driveTestStop => exact h.commit ht fun _ hu => hu.driveTestStop
  case clearRetained => exact h.commit ht fun _ hu => hu.clearRetainedRequest.answer _ _ _
  case restart =>
    cases ht
    split
    · exact start s _
    · exact h
  case resetNAsserted =>
    cases ht
    split <;> exact h
  case reset =>
    cases ht
    split
    · exact h
    · exact start _ _
  case powerOn =>
    cases ht
    split <;> exact start s.judgeRetained (lossReports s.backupDropped)
  case powerLoss =>
    cases ht
    exact h
  case backupDropped =>
    cases ht
    split <;> exact h
  case serviceKeyAsserted => exact h.commitPins ht fun _ hu => hu
  case slewZFall => exact h.commitPins ht fun _ hu => hu
  all_goals exact h.commit ht fun _ hu => hu

/-- A step keeps the invariant: a command does, and a tick only runs timers down. -/
theorem step {t : State} (h : s.TimersSound) (ht : step s = .next t) : t.TimersSound := by
  unfold Machine.step at ht
  split at ht
  · cases ht
    unfold State.idle
    split
    · exact h.elapse 1
    · exact h
  · next c rest _ => exact exec (s := { s with pending := rest }) h c ht

end State.TimersSound

end Sys2Proof.Machine

open Sys2Proof.Machine in
/-- Settles O18: a block's state and its timer move together, in one operation for each block: `State.ecoMove` for the economy
state, `State.setFloor` for the floor record, `State.startEdit` and `State.closeTable` for the table's mode, `Vd.startTest` and
`Vd.endTest` for the drive test; time that passes stops no timer (`Timer.elapse_isSome`). -/
theorem timersFollowStates : Obligations.TimersFollowStates := fun _ _ h ht => h.step ht
end

-- ==== Proofs of sitting 4: a CLOSED table stands ====

section
/-! PROOFS. While the table is CLOSED its zones and sectors stand (04 R61): a request on it is refused whole, and of the other
operations only CLEAR_RETAINED (11 R186) and a power-on that finds the contents lost (11 R184) write them. -/

namespace Sys2Proof.Machine

/-! ### What leaves the Zone Table and the Sector Map alone -/

/-- The zones and the sectors stand as in another state. -/
abbrev State.SameTable (t s : State) : Prop := t.ret.zones = s.ret.zones ∧ t.ret.sectors = s.ret.sectors

/-- Every zone is EMPTY and every sector retired (R184, R186). -/
abbrev State.DefaultTable (t : State) : Prop :=
  t.ret.zones = List.replicate 12 none ∧ t.ret.sectors = List.replicate 32 defaultSector

namespace State.SameTable

theorem refl (s : State) : s.SameTable s := ⟨rfl, rfl⟩

theorem trans {u t s : State} (h : u.SameTable t) (h' : t.SameTable s) : u.SameTable s :=
  ⟨h.1.trans h'.1, h.2.trans h'.2⟩

theorem of_ret {t s : State} (h : t.ret = s.ret) : t.SameTable s :=
  ⟨congrArg Retained.zones h, congrArg Retained.sectors h⟩

theorem defaultTable {t s : State} (h : t.SameTable s) (hs : s.DefaultTable) : t.DefaultTable :=
  ⟨h.1.trans hs.1, h.2.trans hs.2⟩

theorem foldl {α : Type} {op : State → α → State} (hop : ∀ (u : State) (a : α), (op u a).SameTable u) (l : List α)
    (s : State) : (l.foldl op s).SameTable s :=
  List.foldlRecOn (motive := fun t => t.SameTable s) l op (refl s) fun u hu a _ => (hop u a).trans hu

/-! ### Operations that several commands share -/

theorem elapse (s : State) (dt : Nat) : (s.elapse dt).SameTable s := ⟨rfl, rfl⟩

theorem report (s : State) (rs : List Report) : (s.report rs).SameTable s := ⟨rfl, rfl⟩

theorem serviceEvent (s : State) (p : ServiceBasis → Bool) (f : Item → Item) : (s.serviceEvent p f).SameTable s := by
  rw [State.serviceEvent_frame]
  exact ⟨rfl, rfl⟩

theorem writeItem (s : State) (i : Nat) (it : Item) : (s.writeItem i it).SameTable s := by
  rw [State.writeItem_frame]
  exact ⟨rfl, rfl⟩

theorem recompute (s : State) : s.recompute.SameTable s := by
  rw [State.recompute_frame]
  exact ⟨rfl, rfl⟩

theorem tellConsumer (s : State) (i : Nat) (changed accepted : Bool) : (s.tellConsumer i changed accepted).SameTable s := by
  rw [State.tellConsumer_frame]
  exact ⟨rfl, rfl⟩

theorem takeSample (f : CanFrame) (s : State) (i : Nat) : (State.takeSample f s i).SameTable s := by
  unfold State.takeSample
  split
  · exact (tellConsumer _ _ _ _).trans ⟨rfl, rfl⟩
  · exact (tellConsumer _ _ _ _).trans ⟨rfl, rfl⟩

theorem frameArrives (s : State) (f : CanFrame) : (s.frameArrives f).SameTable s :=
  (foldl (takeSample f) _ _).trans ⟨rfl, rfl⟩

theorem sourceLost (s : State) (i : Nat) : (s.sourceLost i).SameTable s := (tellConsumer _ _ _ _).trans ⟨rfl, rfl⟩

theorem writeSource (s : State) (i : Nat) (x : SourceRecord) : (s.writeSource i x).SameTable s :=
  (tellConsumer _ _ _ _).trans ⟨rfl, rfl⟩

theorem gateExpires (s : State) : s.gateExpires.SameTable s := by
  have hgate (u : State) (phi : Nat) (r : Bool) (w : Int) : ((u.puGate phi r w).ecGate w).SameTable u := by
    rw [State.ecGate_frame, State.puGate_frame]
    exact ⟨rfl, rfl⟩
  have hclose (count : Nat) (r : Bool) : (s.closeGate count r).SameTable s := by
    unfold State.closeGate
    dsimp only
    split
    · exact (serviceEvent _ _ _).trans ((hgate _ _ _ _).trans ⟨rfl, rfl⟩)
    · exact (hgate _ _ _ _).trans ⟨rfl, rfl⟩
  unfold State.gateExpires
  split <;> exact hclose _ _

theorem completeQuantum (s : State) : s.completeQuantum.SameTable s := (serviceEvent _ _ _).trans ⟨rfl, rfl⟩

theorem periodEnds (s : State) (b : Bool) : (s.periodEnds b).SameTable s := by
  unfold State.periodEnds
  repeat' split
  all_goals exact ⟨rfl, rfl⟩

theorem attemptEnds (s : State) (b : Bool) : (s.attemptEnds b).SameTable s := by
  unfold State.attemptEnds
  repeat' split
  all_goals exact ⟨rfl, rfl⟩

theorem rampExpires (s : State) (ch : Nat) (l : List Nat) : (s.rampExpires ch l).SameTable s := by
  unfold State.rampExpires
  dsimp only
  split <;> exact ⟨rfl, rfl⟩

/-! ### Requests -/

theorem openZones (s : State) : s.openZones.SameTable s := by
  unfold State.openZones
  split <;> exact ⟨rfl, rfl⟩

theorem selectTarget (s : State) (i : Nat) : (s.selectTarget i).1.SameTable s := by
  unfold State.selectTarget
  repeat' split
  all_goals exact ⟨rfl, rfl⟩

theorem selectMode (s : State) (i : Nat) : (s.selectMode i).SameTable s := by
  unfold State.selectMode
  dsimp only
  repeat' split
  all_goals exact ⟨rfl, rfl⟩

theorem serviceDone (s : State) (i : Nat) : (s.serviceDone i).1.SameTable s := by
  unfold State.serviceDone
  repeat' split
  any_goals exact .refl s
  exact writeItem _ _ _

theorem ackHead (s : State) : s.ackHead.1.SameTable s := by
  unfold State.ackHead
  split <;> exact ⟨rfl, rfl⟩

theorem ackNotice (s : State) (n : Nat) : (s.ackNotice n).1.SameTable s := by
  unfold State.ackNotice
  repeat' split
  all_goals exact ⟨rfl, rfl⟩

theorem clearValveFault (s : State) (ch : Nat) : (s.clearValveFault ch).1.SameTable s := by
  unfold State.clearValveFault
  repeat' split
  all_goals exact ⟨rfl, rfl⟩

theorem driveTest (s : State) (ch c d : Nat) : (s.driveTest ch c d).1.SameTable s := by
  unfold State.driveTest
  repeat' split
  all_goals exact ⟨rfl, rfl⟩

theorem driveTestStop (s : State) : s.driveTestStop.1.SameTable s := by
  unfold State.driveTestStop
  split <;> exact ⟨rfl, rfl⟩

theorem writeChannel (s : State) (ch : Nat) (c : ChannelConfig) : (s.writeChannel ch c).SameTable s := by
  unfold State.writeChannel
  rw [State.handBack_frame]
  exact ⟨rfl, rfl⟩

theorem writeGeometry (s : State) (g : Geometry) : (s.writeGeometry g).SameTable s := (recompute _).trans ⟨rfl, rfl⟩

/-! ### The requests on the other tables -/

theorem putSurface (s : State) (i : Nat) (p : List Byte) : (s.putSurface i p).1.SameTable s := by
  unfold State.putSurface
  repeat' split
  all_goals exact ⟨rfl, rfl⟩

theorem retireSurface (s : State) (i : Nat) : (s.retireSurface i).1.SameTable s := by
  unfold State.retireSurface
  repeat' split
  all_goals exact ⟨rfl, rfl⟩

theorem putItem (s : State) (i : Nat) (p : List Byte) : (s.putItem i p).1.SameTable s := by
  unfold State.putItem
  repeat' split
  any_goals exact .refl s
  exact writeItem _ _ _

theorem retireItem (s : State) (i : Nat) : (s.retireItem i).1.SameTable s := by
  unfold State.retireItem
  repeat' split
  any_goals exact .refl s
  rw [State.derateReport_frame]
  exact ⟨rfl, rfl⟩

theorem putSource (s : State) (i : Nat) (p : List Byte) : (s.putSource i p).1.SameTable s := by
  unfold State.putSource
  repeat' split
  any_goals exact .refl s
  exact writeSource _ _ _

theorem retireSourceEntry (s : State) (i : Nat) : (s.retireSourceEntry i).1.SameTable s := by
  unfold State.retireSourceEntry
  split
  · exact .refl s
  · exact writeSource s _ _

theorem putMode (s : State) (i : Nat) (p : List Byte) : (s.putMode i p).1.SameTable s := by
  unfold State.putMode State.writeMode
  dsimp only
  repeat' split
  all_goals exact ⟨rfl, rfl⟩

theorem putChannel (s : State) (i : Nat) (p : List Byte) : (s.putChannel i p).1.SameTable s := by
  unfold State.putChannel
  split
  · exact .refl s
  · exact writeChannel s _ _

theorem retireChannel (s : State) (i : Nat) : (s.retireChannel i).1.SameTable s := by
  unfold State.retireChannel
  split
  · exact .refl s
  · exact writeChannel s _ _

theorem putGeometry (s : State) (i : Nat) (p : List Byte) : (s.putGeometry i p).1.SameTable s := by
  unfold State.putGeometry
  repeat' split
  any_goals exact .refl s
  exact writeGeometry _ _

theorem retireGeometry (s : State) (i : Nat) : (s.retireGeometry i).1.SameTable s := by
  unfold State.retireGeometry
  split
  · exact .refl s
  · exact writeGeometry s _

theorem writeSetting (s : State) (n : Nat) (v : Int) : (s.writeSetting n v).1.SameTable s := by
  unfold State.writeSetting
  split
  · exact .refl s
  · dsimp only
    rw [State.SameTable, State.applySetting_ret]
    exact ⟨rfl, rfl⟩

/-! ### Requests on a CLOSED table -/

/-- A PUT_ENTRY on a CLOSED table's own entries is refused whole (R61), and one on another table leaves them. -/
theorem putEntry {s : State} (hclosed : s.zt.isOpen = false) (table i : Nat) (p : List Byte) :
    (s.putEntry table i p).1.SameTable s := by
  have hrefused : (!s.zt.isOpen) = true := by rw [hclosed]; rfl
  unfold State.putEntry
  split
  · exact .refl s
  split
  · exact .refl s
  split
  · rw [State.putZone, if_pos hrefused]
    exact .refl s
  · rw [State.putSector, if_pos hrefused]
    exact .refl s
  · exact putSurface s _ _
  · exact putItem s _ _
  · exact putSource s _ _
  · exact putMode s _ _
  · exact putChannel s _ _
  · exact putGeometry s _ _
  · exact writeSetting s _ _

theorem retireEntry {s : State} (hclosed : s.zt.isOpen = false) (table i : Nat) : (s.retireEntry table i).1.SameTable s := by
  have hrefused : (!s.zt.isOpen) = true := by rw [hclosed]; rfl
  unfold State.retireEntry
  split
  · exact .refl s
  split
  · rw [State.retireZone, if_pos hrefused]
    exact .refl s
  · rw [State.retireSector, if_pos hrefused]
    exact .refl s
  · exact retireSurface s _
  · exact retireItem s _
  · exact retireSourceEntry s _
  · exact .refl s
  · exact retireChannel s _
  · exact retireGeometry s _
  · exact writeSetting s _ _

/-! ### Every command but CLEAR_RETAINED and a power-on that finds the contents lost -/

theorem commit {s t : State} {f : State → State} (ht : s.commit f = .next t) (hf : (f s).SameTable s) : t.SameTable s := by
  by_cases hp : s.phase = .running
  · rw [State.commit_running hp] at ht
    cases ht
    exact hf
  · rw [State.commit_stopped hp] at ht
    cases ht
    exact .refl s

theorem commitPins {s t : State} {p : Pins} {f : State → State} (ht : s.commitPins p f = .next t)
    (hf : ∀ u : State, (f u).SameTable u) : t.SameTable s := by
  by_cases hp : s.phase = .running
  · rw [State.commitPins_running hp] at ht
    cases ht
    exact hf { s with pins := p }
  · rw [State.commitPins_stopped hp] at ht
    cases ht
    exact ⟨rfl, rfl⟩

/-- A timer's expiry leaves the table where its effect does. -/
theorem commitExpire {s t : State} {pick : State → Timer} {f : State → State}
    (ht : s.commit (fun s => s.expire (pick s) f) = .next t) (hf : ∀ u : State, (f u).SameTable u) : t.SameTable s := by
  refine commit ht ?_
  cases hleft : pick s with
  | none => exact .refl s
  | some left => exact (hf _).trans (elapse s left)

theorem exec {s t : State} (hclosed : s.zt.isOpen = false) (c : Instr) (hclear : c ≠ .clearRetained)
    (hkept : c = .powerOn → s.backupDropped = false) (ht : exec c s = .next t) : t.SameTable s := by
  cases c
  all_goals simp only [Machine.exec] at ht
  case frameArrival f =>
    refine commit ht ?_
    split
    · exact frameArrives s f
    · exact .refl s
  case sourceTimeoutExpiry slot =>
    exact commitExpire (pick := fun s => (s.slot slot.val).timer) ht fun u => sourceLost u _
  case periodTimerExpiry b => exact commitExpire (pick := fun s => s.mbp.period) ht fun u => periodEnds u b
  case transmissionAttemptEnd b => exact commit ht (attemptEnds s b)
  case recoveryTimerExpiry => exact commitExpire (pick := fun s => s.mbp.recovery) ht fun _ => ⟨rfl, rfl⟩
  case slewStep a b =>
    refine commitPins ht fun u => ?_
    split <;> exact ⟨rfl, rfl⟩
  case indexMark =>
    refine commitPins ht fun u => ?_
    split <;> exact ⟨rfl, rfl⟩
  case gateTimerExpiry => exact commitExpire (pick := fun s => s.sc.gate) ht gateExpires
  case editTimerExpiry => exact commitExpire (pick := fun s => s.zt.edit) ht fun _ => ⟨rfl, rfl⟩
  case holdTimerExpiry =>
    refine commitExpire (pick := fun s => s.gg.hold) ht fun u => ?_
    split <;> exact ⟨rfl, rfl⟩
  case autoIdleTimerExpiry =>
    refine commitExpire (pick := fun s => s.ec.autoIdle) ht fun u => ?_
    split <;> exact ⟨rfl, rfl⟩
  case shutdownTimerLeft =>
    refine commit ht ?_
    split
    · exact .refl s
    split
    · exact .refl s
    · exact (report _ _).trans (elapse s _)
  case shutdownTimerExpiry =>
    refine commitExpire (pick := fun s => s.ec.shutdown) ht fun u => ?_
    split <;> exact ⟨rfl, rfl⟩
  case shutdownWaitExpiry =>
    refine commitExpire (pick := fun s => s.ec.wait) ht fun u => ?_
    split <;> exact ⟨rfl, rfl⟩
  case quantumCompletion =>
    refine commit ht ?_
    split
    · exact (completeQuantum _).trans (elapse s _)
    · exact .refl s
  case flashTimerExpiry lamp => exact commitExpire (pick := fun s => (s.nu.lamp lamp).flash) ht fun _ => ⟨rfl, rfl⟩
  case stretchTimerExpiry lamp => exact commitExpire (pick := fun s => (s.nu.lamp lamp).stretch) ht fun _ => ⟨rfl, rfl⟩
  case rampIntervalExpiry ch l =>
    exact commitExpire (pick := fun s => (s.vd.chan ch.val).ramp) ht fun u => rampExpires u _ _
  case overCurrent ch i =>
    refine commit ht ?_
    split <;> exact ⟨rfl, rfl⟩
  case supplyVoltageChange v => exact commitPins ht fun _ => ⟨rfl, rfl⟩
  case downQualificationExpiry => exact commitExpire (pick := fun s => s.vd.downQual) ht fun _ => ⟨rfl, rfl⟩
  case upQualificationExpiry => exact commitExpire (pick := fun s => s.vd.upQual) ht fun _ => ⟨rfl, rfl⟩
  case durationTimerExpiry => exact commitExpire (pick := fun s => s.vd.duration) ht fun _ => ⟨rfl, rfl⟩
  case serviceKeyRelease => exact commitPins ht fun _ => ⟨rfl, rfl⟩
  case transactionStart =>
    refine commitPins ht fun u => ?_
    split <;> exact ⟨rfl, rfl⟩
  case transactionEnd sdi => exact commitPins ht fun _ => ⟨rfl, rfl⟩
  case responseReady =>
    refine commit ht ?_
    rw [State.prepare_frame]
    exact ⟨rfl, rfl⟩
  case putEntry table i p => exact commit ht (putEntry hclosed table.toNat i.toNat p)
  case retireEntry table i => exact commit ht (retireEntry hclosed table.toNat i.toNat)
  case openZones => exact commit ht (openZones s)
  case closeZones =>
    refine commit ht ?_
    split <;> exact ⟨rfl, rfl⟩
  case selectTarget i => exact commit ht (selectTarget s i.toNat)
  case setWorkMode i =>
    refine commit ht ?_
    split
    · exact selectMode s i.toNat
    · exact ⟨rfl, rfl⟩
  case serviceDone i => exact commit ht (serviceDone s i.toNat)
  case ackHead => exact commit ht (ackHead s)
  case ackNotice n => exact commit ht (ackNotice s n.toNat)
  case clearValveFault ch => exact commit ht (clearValveFault s ch.toNat)
  case driveTest ch c d => exact commit ht (driveTest s ch.toNat c.toNat d.toNat)
  case driveTestStop => exact commit ht (driveTestStop s)
  case clearRetained => exact absurd rfl hclear
  case restart =>
    cases ht
    split <;> exact ⟨rfl, rfl⟩
  case resetNAsserted =>
    cases ht
    split <;> exact ⟨rfl, rfl⟩
  case reset =>
    cases ht
    split <;> exact ⟨rfl, rfl⟩
  case powerOn =>
    cases ht
    have hret : s.judgeRetained.ret = s.ret := by simp [State.judgeRetained, hkept rfl]
    have hstart : s.powerUp.SameTable s.judgeRetained := ⟨rfl, rfl⟩
    split <;> exact hstart.trans (.of_ret hret)
  case powerLoss =>
    cases ht
    exact ⟨rfl, rfl⟩
  case backupDropped =>
    cases ht
    split <;> exact ⟨rfl, rfl⟩
  case serviceKeyAsserted => exact commitPins ht fun _ => ⟨rfl, rfl⟩
  case slewZFall => exact commitPins ht fun _ => ⟨rfl, rfl⟩
  all_goals exact commit ht ⟨rfl, rfl⟩

end State.SameTable

/-! ### CLEAR_RETAINED and lost contents -/

/-- The Zone Table's own default (R71) is what stands at the end: no owner after it writes a zone or a sector. -/
theorem State.clearRetained_defaultTable (s : State) : s.clearRetained.DefaultTable := by
  have hzones (u : State) : u.clearZones.DefaultTable := ⟨rfl, rfl⟩
  have hgrade (u : State) : u.clearLimiter.clearGrade.SameTable u := ⟨rfl, rfl⟩
  have heconomy (u : State) : u.clearEconomy.SameTable u := by
    unfold State.clearEconomy
    rw [State.judgeOil_frame, State.judgeActivity_frame, State.judgeEngine_frame]
    exact ⟨rfl, rfl⟩
  have hservice (u : State) : u.clearService.SameTable u := ⟨rfl, rfl⟩
  have hvalves (u : State) : u.clearValves.SameTable u := by
    have hchannels := State.SameTable.foldl (op := State.channelDefault) (fun u ch => .writeChannel u ch _) (List.range 4) u
    exact hchannels
  have hnotices (u : State) : u.clearNoticeSettings.SameTable u := ⟨rfl, rfl⟩
  unfold State.clearRetained
  exact ((hnotices _).trans ((hvalves _).trans ((hservice _).trans ((heconomy _).trans (hgrade _))))).defaultTable (hzones _)

theorem exec_clearRetained_table {s t : State} (ht : exec .clearRetained s = .next t) : t.SameTable s ∨ t.DefaultTable := by
  have hrequest : s.clearRetainedRequest.1.SameTable s ∨ s.clearRetainedRequest.1.DefaultTable := by
    unfold State.clearRetainedRequest
    split
    · exact .inl (.refl s)
    split
    · exact .inl (.refl s)
    · exact .inr s.clearRetained_defaultTable
  simp only [Machine.exec, execClearRetained] at ht
  by_cases hp : s.phase = .running
  · rw [State.commit_running hp] at ht
    cases ht
    exact hrequest
  · rw [State.commit_stopped hp] at ht
    cases ht
    exact .inl (.refl s)

theorem exec_powerOn_lost_table {s t : State} (hlost : s.backupDropped = true) (ht : exec .powerOn s = .next t) :
    t.DefaultTable := by
  have hret : s.judgeRetained.ret = defaultRetained := by simp [State.judgeRetained, hlost]
  have hstart : s.powerUp.SameTable s.judgeRetained := ⟨rfl, rfl⟩
  have hdefault : s.powerUp.DefaultTable := hstart.defaultTable (by
    constructor <;> rw [hret] <;> rfl)
  cases ht
  split <;> exact hdefault

/-- What a step can do to the entries of a CLOSED table. -/
theorem step_closed_table {s t : State} (hclosed : s.zt.isOpen = false) (ht : step s = .next t) :
    t.SameTable s ∨ s.clearsNext ∧ t.DefaultTable := by
  unfold step at ht
  split at ht
  · cases ht
    refine .inl ?_
    unfold State.idle
    split <;> exact ⟨rfl, rfl⟩
  next c rest hpending =>
    by_cases hclear : c = .clearRetained
    · subst hclear
      exact (exec_clearRetained_table ht).imp id fun h => ⟨.inl (by rw [hpending]; rfl), h⟩
    by_cases hlost : c = .powerOn ∧ s.backupDropped = true
    · obtain ⟨rfl, hlost⟩ := hlost
      exact .inr ⟨.inr ⟨by rw [hpending]; rfl, hlost⟩, exec_powerOn_lost_table (s := { s with pending := rest }) hlost ht⟩
    · exact .inl (State.SameTable.exec (s := { s with pending := rest }) hclosed c hclear
        (fun hc => by simpa [hc] using hlost) ht)

end Sys2Proof.Machine

open Sys2Proof.Machine in
/-- Settles O20: a request on the entries of a CLOSED table is refused whole (`State.SameTable.putEntry`,
`State.SameTable.retireEntry`), and only CLEAR_RETAINED and lost contents write them otherwise (`step_closed_table`). -/
theorem closedTableUnchanged : Obligations.ClosedTableUnchanged := fun _ _ hclosed ht =>
  step_closed_table hclosed ht
end

-- ==== Proofs of sitting 4: the point class ====

section
/-! PROOFS. The point class (04 R55): arcs as the statements write them, the zones that apply at a point (R54), and the most
restrictive of their classes. -/

namespace Sys2Proof.Machine

/-! ### Arcs and conditions -/

theorem arcContains_iff (start width q : Nat) :
    arcContains start width q = true ↔ ((q : Int) - start) % 16384 < width := by
  rw [arcContains, turn, decide_eq_true_iff]
  omega

/-- The condition of a zone is met by a pose, a quantity absent from the pose counting as met (R54). -/
def Zone.Met (z : Zone) (p : Pose) : Prop :=
  match z.condition with
  | .always => True
  | .tipAbove => ∀ h ∈ p.z, ∀ l ∈ z.limit, l < h
  | .tipBelow => ∀ h ∈ p.z, ∀ l ∈ z.limit, h < l
  | .reachBeyond => ∀ r ∈ p.r, ∀ l ∈ z.limit, l < r

theorem zoneHolds_iff (z : Zone) (p : Pose) : zoneHolds z p = true ↔ z.Met p := by
  unfold zoneHolds Zone.Met
  cases z.condition with
  | always => simp
  | tipAbove => cases p.z <;> cases z.limit <;> simp
  | tipBelow => cases p.z <;> cases z.limit <;> simp
  | reachBeyond => cases p.r <;> cases z.limit <;> simp

theorem mem_liveZones {ret : Retained} {p : Pose} {z : Zone} :
    z ∈ liveZones ret p ↔ some z ∈ ret.zones ∧ z.active = true ∧ z.Met p := by
  simp only [liveZones, List.mem_filterMap, ← zoneHolds_iff]
  constructor
  · rintro ⟨e, he, hz⟩
    cases e with
    | none => cases hz
    | some w =>
      obtain ⟨hlive, rfl⟩ : (w.active && zoneHolds w p) = true ∧ w = z := by simpa using hz
      exact ⟨he, by simpa using hlive⟩
  · rintro ⟨he, hactive, hholds⟩
    exact ⟨some z, he, by simp [hactive, hholds]⟩

/-- The zones that apply at q for a pose (R54). -/
def coveringZones (ret : Retained) (p : Pose) (q : Nat) : List Zone :=
  (liveZones ret p).filter (fun z => arcContains z.start z.width q)

theorem mem_coveringZones {ret : Retained} {p : Pose} {q : Nat} {z : Zone} :
    z ∈ coveringZones ret p q ↔
      some z ∈ ret.zones ∧ z.active = true ∧ ((q : Int) - z.start) % 16384 < z.width ∧ z.Met p := by
  rw [coveringZones, List.mem_filter, mem_liveZones, arcContains_iff]
  tauto

/-! ### The most restrictive class -/

theorem Cls.worse_eq_or (a b : Cls) : a.worse b = a ∨ a.worse b = b := by
  unfold Cls.worse
  split <;> simp

theorem Cls.rank_le_worse (a b : Cls) : a.rank ≤ (a.worse b).rank ∧ b.rank ≤ (a.worse b).rank := by
  unfold Cls.worse
  split <;> omega

theorem foldl_worse_mem (cs : List Cls) (c : Cls) : cs.foldl Cls.worse c ∈ c :: cs := by
  induction cs generalizing c with
  | nil => exact List.mem_singleton_self c
  | cons d cs ih =>
    rw [List.foldl_cons]
    rcases List.mem_cons.mp (ih (c.worse d)) with hworse | hrest
    · rw [hworse]
      rcases c.worse_eq_or d with h | h <;> simp [h]
    · exact List.mem_cons_of_mem c (List.mem_cons_of_mem d hrest)

theorem rank_le_foldl_worse (cs : List Cls) (c : Cls) : ∀ d ∈ c :: cs, d.rank ≤ (cs.foldl Cls.worse c).rank := by
  induction cs generalizing c with
  | nil => simp
  | cons e cs ih =>
    rw [List.foldl_cons]
    obtain ⟨hworst, hrest⟩ := List.forall_mem_cons.mp (ih (c.worse e))
    obtain ⟨hc, he⟩ := c.rank_le_worse e
    exact List.forall_mem_cons.mpr ⟨hc.trans hworst, List.forall_mem_cons.mpr ⟨he.trans hworst, hrest⟩⟩

/-! ### The point class -/

section
variable {ret : Retained} {p : Pose} {q : Nat}

theorem pointClass_firm (hmap : ret.settings.sectorMap = true) (hfirm : (sectorAt ret q).firm = true) :
    pointClass ret p q = (sectorAt ret q).cls := by
  rw [pointClass, pointClassIn, if_pos (by simp [hmap, hfirm])]

/-- Outside a firm sector the zones that apply give their most restrictive class. -/
theorem pointClass_covered (h : ¬(ret.settings.sectorMap = true ∧ (sectorAt ret q).firm = true))
    (hany : coveringZones ret p q ≠ []) :
    (∃ z ∈ coveringZones ret p q, pointClass ret p q = z.cls) ∧
      ∀ z ∈ coveringZones ret p q, z.cls.rank ≤ (pointClass ret p q).rank := by
  obtain ⟨z, zs, hcover⟩ := List.exists_cons_of_ne_nil hany
  have hclass : pointClass ret p q = (zs.map (·.cls)).foldl Cls.worse z.cls := by
    rw [coveringZones] at hcover
    rw [pointClass, pointClassIn, if_neg (by simpa using h), hcover]
  rw [hclass, hcover]
  obtain ⟨w, hw, hcls⟩ : ∃ w ∈ z :: zs, w.cls = (zs.map (·.cls)).foldl Cls.worse z.cls :=
    List.mem_map.mp (foldl_worse_mem (zs.map (·.cls)) z.cls)
  exact ⟨⟨w, hw, hcls.symm⟩, fun u hu => rank_le_foldl_worse (zs.map (·.cls)) z.cls u.cls (List.mem_map_of_mem hu)⟩

/-- Where no zone applies the background does: the sector's class, or the default class where the map is OFF. -/
theorem pointClass_uncovered (h : ¬(ret.settings.sectorMap = true ∧ (sectorAt ret q).firm = true))
    (hnone : coveringZones ret p q = []) :
    pointClass ret p q = if ret.settings.sectorMap then (sectorAt ret q).cls else ret.settings.defaultClass := by
  rw [coveringZones] at hnone
  rw [pointClass, pointClassIn, if_neg (by simpa using h), hnone]

end

end Sys2Proof.Machine

open Sys2Proof.Machine in
/-- Settles O26: the zones that apply are `coveringZones`, and where no firm sector decides, the class is the most restrictive of
theirs (`pointClass_covered`) or, where there is none, the background's (`pointClass_uncovered`). -/
theorem pointClassPrecedence : Obligations.PointClassPrecedence := by
  intro ret p q _ sec met applies firmHere
  have happlies (z : Zone) : z ∈ coveringZones ret p q ↔ applies z := mem_coveringZones
  refine ⟨fun hfirm => pointClass_firm hfirm.1 hfirm.2, fun hnot hany => ?_, fun hnot hnone => ?_⟩
  · obtain ⟨z, hz⟩ := hany
    simpa only [happlies] using pointClass_covered hnot (List.ne_nil_of_mem ((happlies z).mpr hz))
  · exact pointClass_uncovered hnot (List.eq_nil_iff_forall_not_mem.mpr fun z hz => hnone ⟨z, (happlies z).mp hz⟩)
end

-- ==== Proofs of sitting 4: one evaluation of the Slew Limiter ====

section
/-! PROOFS. One evaluation of the Slew Limiter (05 R73, R83, R85) and the engaged flags that it leaves (04 R68). -/

namespace Sys2Proof.Machine

/-! ### Targets as the statements write them -/

theorem slewTarget_eq (c : ChannelConfig) (d : DirState) :
    slewTarget c d = if d = .blocked then c.imax else if d = .limited then c.slow.getD 0 else 0 := by
  cases d <;> rfl

/-! ### Arcs (05 R79) and engaged zones (R68) -/

theorem any_leftArc_iff {start width phi length : Nat} :
    (leftArc phi length).any (arcContains start width) = true ↔
      ∃ k : Nat, k ≤ length ∧ ((phi : Int) + k - start) % 16384 < width := by
  simp only [leftArc, List.any_map, List.any_eq_true, List.mem_range, Function.comp_apply, arcContains_iff, turn]
  refine exists_congr fun k => and_congr (by omega) ?_
  omega

theorem any_rightArc_iff {start width phi length : Nat} (h : length ≤ 8192) :
    (rightArc phi length).any (arcContains start width) = true ↔
      ∃ k : Nat, k ≤ length ∧ ((phi : Int) - k - start) % 16384 < width := by
  simp only [rightArc, List.any_map, List.any_eq_true, List.mem_range, Function.comp_apply, arcContains_iff, turn]
  refine exists_congr fun k => ?_
  rw [Nat.lt_succ_iff]
  refine and_congr_right fun hk => ?_
  omega

theorem engagedFlags_noArcs {ret : Retained} {p : Pose} {r : LimitRecord} (h : r.leftLength = none) (i : Nat) :
    (engagedFlags ret p r).getD i false = false := by
  have hnone : engagedFlags ret p r = ret.zones.map fun _ => false := by
    rw [engagedFlags, h]
    cases p.phi <;> rfl
  rw [hnone]
  exact List.getD_map (n := i) ret.zones none fun _ => false

theorem engagedFlags_iff {ret : Retained} {p : Pose} {r : LimitRecord} {phi ll rl : Nat} (hphi : p.phi = some phi)
    (hl : r.leftLength = some ll) (hr : r.rightLength = some rl) (hrl : rl ≤ 8192) (i : Nat) :
    (engagedFlags ret p r).getD i false = true ↔
      ∃ z, ret.zones.getD i none = some z ∧ z.active = true ∧ zoneHolds z p = true ∧
        ((∃ k : Nat, k ≤ ll ∧ ((phi : Int) + k - z.start) % 16384 < z.width) ∨
          ∃ k : Nat, k ≤ rl ∧ ((phi : Int) - k - z.start) % 16384 < z.width) := by
  have hflag : (engagedFlags ret p r).getD i false = zoneEngaged p phi ll rl (ret.zones.getD i none) := by
    rw [engagedFlags, hphi, hl, hr]
    exact List.getD_map (n := i) ret.zones none (zoneEngaged p phi ll rl)
  rw [hflag]
  cases ret.zones.getD i none with
  | none => simp [zoneEngaged]
  | some z =>
    simp only [zoneEngaged, Bool.and_eq_true, Bool.or_eq_true, any_leftArc_iff, any_rightArc_iff hrl, Option.some.injEq,
      exists_eq_left', and_assoc]

end Sys2Proof.Machine

open Sys2Proof.Machine in
/-- Settles O29: targets and conditions are those of the record (`slewTarget_eq`, `limitReports_eq`), and a zone is engaged where
it applies on one of the two arcs (`engagedFlags_iff`). -/
theorem limitsEvaluated : Obligations.LimitsEvaluated := by
  intro s lr target
  refine ⟨?_, fun h i => engagedFlags_noArcs h i, fun i phi ll rl hphi hl hr _ hrl => engagedFlags_iff hphi hl hr hrl i⟩
  have htarget (ch : Nat) (d : DirState) : slewTarget (s.ret.config ch) d = target ch d := slewTarget_eq _ d
  rw [State.evaluateLimits, handSlewTargets, htarget, htarget, limitReports_eq]
  rfl
end

-- ==== Proofs of sitting 4: the Zone Table's mode ====

section
/-! PROOFS. The two modes of the Zone Table: OPEN_ZONES, CLOSE_ZONES and the edit timer's expiry (04 R57 to R60). -/

namespace Sys2Proof.Machine

variable {s : State}

theorem State.openZones_closed (h : s.zt.isOpen = false) :
    s.openZones =
      State.evaluateLimits { s with
        zt := { s.zt with isOpen := true, edit := some (s.ret.settings.editTimeout * 1000) }
        inbox := s.inbox ++ [.condition 84 true] } := by
  rw [State.openZones, if_neg (by simp [h])]
  rfl

theorem State.openZones_open (h : s.zt.isOpen = true) : s.openZones = s.startEdit := if_pos h

theorem State.closeTable_eq (reports : List Report) :
    s.closeTable reports =
      State.evaluateLimits { s with zt := { s.zt with isOpen := false, edit := none }, inbox := s.inbox ++ reports } := rfl

theorem exec_openZones (hrun : s.phase = .running) : exec .openZones s = .next (s.openZones.answer 5 .ok []).deliver :=
  State.commit_running hrun fun s => s.openZones.answer 5 .ok []

theorem exec_closeZones (hrun : s.phase = .running) :
    exec .closeZones s =
      .next (if s.zt.isOpen then (s.closeTable [.condition 84 false]).answer 6 .ok [] else s.answer 6 .state []).deliver :=
  State.commit_running hrun fun s =>
    if s.zt.isOpen then (s.closeTable [.condition 84 false]).answer 6 .ok [] else s.answer 6 .state []

/-- A request that reported nothing leaves its answer and delivers nothing. -/
theorem State.deliver_answer_none (h : s.inbox = []) (code : Nat) (r : ResultCode) (p : List Byte) :
    (s.answer code r p).deliver = s.answer code r p := State.deliver_none h

end Sys2Proof.Machine

open Sys2Proof.Machine in
/-- Settles O41: OPEN_ZONES moves a CLOSED table and restarts the timer of an OPEN one (`State.openZones_closed`,
`State.openZones_open`); CLOSE_ZONES and the expiry close the table alike (`State.closeTable_eq`). -/
theorem zoneEditModes : Obligations.ZoneEditModes := by
  intro s ⟨hrun, hin⟩ full
  refine ⟨fun hclosed => ?_, fun hopen => ?_, fun hopen => ?_, fun hclosed => ?_, fun left hleft => ?_⟩
  · rw [exec_openZones hrun, State.openZones_closed hclosed, hin]
    rfl
  · rw [exec_openZones hrun, State.openZones_open hopen, State.deliver_answer_none (s := s.startEdit) hin]
    rfl
  · rw [exec_closeZones hrun, if_pos hopen, State.closeTable_eq, hin]
    rfl
  · rw [exec_closeZones hrun, if_neg (by simp [hclosed]), State.deliver_answer_none hin]
  · refine (State.commit_expire hrun (pick := fun s => s.zt.edit) hleft _).trans ?_
    rw [State.closeTable_eq, State.elapse_inbox, hin]
    rfl
end

-- ==== Proofs of sitting 4: zones and sectors on the wire ====

section
/-! PROOFS. Zones and sectors on the wire (11 R182, Table 11-4), and the requests on ZONES and SECTORS (04 R61 to R65). -/

namespace Sys2Proof.Machine

/-! ### Codes -/

/-- The code of an entry that is not EMPTY: ACTIVE 1, DORMANT 2 (R52). -/
def activeCode (active : Bool) : Nat := if active then 1 else 2

theorem activeOf_eq_some_iff {n : Nat} {a : Bool} : activeOf n = some a ↔ n = activeCode a := by
  unfold activeOf activeCode
  split <;> cases a <;> simp_all

theorem zoneConditionOf_eq_some_iff {n : Nat} {c : ZoneCondition} : zoneConditionOf n = some c ↔ n = c.code := by
  unfold zoneConditionOf ZoneCondition.code
  split <;> cases c <;> simp_all

theorem clsOf_eq_some_iff {n : Nat} {c : Cls} : clsOf n = some c ↔ n = c.code := by
  unfold clsOf Cls.code Cls.rank
  split <;> cases c <;> simp_all

/-! ### Fields that may be absent -/

theorem optBeInt_fieldOptInt {p : List Byte} {o n : Nat} (h : o + n ≤ p.length) :
    optBeInt n (fieldOptInt p o n) = field p o n := by
  rw [← toBeInt_fieldInt h]
  unfold fieldOptInt optBeInt
  dsimp only
  split
  · next hmark => rw [hmark, Option.getD_none]
  · rfl

/-! ### Zones -/

/-- The zone that the fields of a payload spell, given what its codes stand for. -/
def zoneFields (p : List Byte) (active : Bool) (condition : ZoneCondition) (cls : Cls) : Zone :=
  { active, start := fieldNat p 1 2, width := fieldNat p 3 2, condition, limit := fieldOptInt p 6 4, cls
    tag := fieldNat p 11 2 }

/-- The limit that a condition asks for, as the statements write it (R62). -/
theorem zoneLimitOk_iff (z : Zone) :
    zoneLimitOk z.condition z.limit = true ↔
      match z.condition with
      | .always => z.limit = none
      | .tipAbove => ∃ l ∈ z.limit, -30000 ≤ l ∧ l ≤ 30000
      | .tipBelow => ∃ l ∈ z.limit, -30000 ≤ l ∧ l ≤ 30000
      | .reachBeyond => ∃ l ∈ z.limit, 0 ≤ l ∧ l ≤ 45000 := by
  cases z.condition <;> cases z.limit <;> simp [zoneLimitOk]

/-- The checks of R62, as the Zone Table makes them. -/
theorem zoneChecks_iff (z : Zone) :
    (z.start ≤ 16383 ∧ 1 ≤ z.width ∧ z.width ≤ 16384 ∧ zoneLimitOk z.condition z.limit ∧ z.cls ≠ .free ∧
      z.tag < absentMark 2) ↔ z.Sound := by
  have hmark : absentMark 2 = 65535 := rfl
  rw [zoneLimitOk_iff, hmark]
  constructor
  · rintro ⟨hstart, hleast, hmost, hlimit, hcls, htag⟩
    exact ⟨hstart, hleast, hmost, hcls, htag, hlimit⟩
  · rintro ⟨hstart, hleast, hmost, hcls, htag, hlimit⟩
    exact ⟨hstart, hleast, hmost, hlimit, hcls, htag⟩

theorem zoneOf_eq_some_iff {p : List Byte} {z : Zone} :
    zoneOf p = some z ↔
      fieldNat p 0 1 = activeCode z.active ∧ fieldNat p 5 1 = z.condition.code ∧ fieldNat p 10 1 = z.cls.code ∧
        zoneFields p z.active z.condition z.cls = z ∧ z.Sound := by
  rw [← activeOf_eq_some_iff, ← zoneConditionOf_eq_some_iff, ← clsOf_eq_some_iff]
  unfold zoneOf
  split
  · next active condition cls hactive hcondition hcls =>
    rw [hactive, hcondition, hcls, Option.some.injEq, Option.some.injEq, Option.some.injEq]
    change (if _ then some (zoneFields p active condition cls) else none) = some z ↔ _
    constructor
    · intro h
      obtain ⟨hchecks, hz⟩ := Option.ite_none_right_eq_some.mp h
      obtain rfl : zoneFields p active condition cls = z := Option.some.inj hz
      exact ⟨rfl, rfl, rfl, rfl, (zoneChecks_iff _).mp hchecks⟩
    · rintro ⟨rfl, rfl, rfl, hz, hsound⟩
      rw [← hz] at hsound
      exact (if_pos ((zoneChecks_iff _).mpr hsound)).trans (congrArg some hz)
  · next hnone =>
    simp only [reduceCtorEq, false_iff]
    rintro ⟨hactive, hcondition, hcls, -⟩
    exact hnone _ _ _ hactive hcondition hcls

theorem Zone.payload_length (z : Zone) : z.payload.length = 13 := by
  simp only [Zone.payload, optBeInt, List.length_append, toBe_length, toBeInt_length]

/-- The fields of a zone's payload stand at the offsets of Table 11-4. -/
theorem field_zonePayload (z : Zone) :
    field z.payload 0 1 = toBe 1 (activeCode z.active) ∧ field z.payload 1 2 = toBe 2 z.start ∧
      field z.payload 3 2 = toBe 2 z.width ∧ field z.payload 5 1 = toBe 1 z.condition.code ∧
      field z.payload 6 4 = optBeInt 4 z.limit ∧ field z.payload 10 1 = toBe 1 z.cls.code ∧
      field z.payload 11 2 = toBe 2 z.tag := by
  simp only [Zone.payload, activeCode, field, optBeInt, toBeInt, toBe, List.cons_append, List.nil_append, List.drop_zero,
    List.drop_succ_cons, List.take_succ_cons, List.take_zero, and_self]

/-- A sound zone's limit is far from the absent mark of its field. -/
theorem Zone.Sound.limit_bounds {z : Zone} (h : z.Sound) {l : Int} (hl : z.limit = some l) : -30000 ≤ l ∧ l ≤ 45000 := by
  have hlimit := (zoneLimitOk_iff z).mpr h.2.2.2.2.2
  rw [hl] at hlimit
  cases hcondition : z.condition <;> simp [hcondition, zoneLimitOk] at hlimit <;> omega

theorem fieldOptInt_limit {z : Zone} (h : z.Sound) : fieldOptInt z.payload 6 4 = z.limit := by
  obtain ⟨-, -, -, -, hfield, -, -⟩ := field_zonePayload z
  have hmark : absentMarkInt 4 = -2147483648 := absentMarkInt_four
  rw [fieldOptInt, fieldInt, hfield, optBeInt]
  cases hl : z.limit with
  | none => rw [Option.getD_none, beInt_toBeInt (by norm_num [hmark]) (by norm_num [hmark]), if_pos rfl]
  | some l =>
    obtain ⟨hlo, hhi⟩ := h.limit_bounds hl
    rw [Option.getD_some, beInt_toBeInt (by norm_num; omega) (by norm_num; omega), if_neg (by omega)]

theorem zoneOf_payload {z : Zone} (h : z.Sound) : zoneOf z.payload = some z := by
  obtain ⟨hstart, -, hwidth, -, htag, -⟩ := id h
  obtain ⟨hfactive, hfstart, hfwidth, hfcondition, -, hfcls, hftag⟩ := field_zonePayload z
  refine zoneOf_eq_some_iff.mpr ⟨?_, ?_, ?_, ?_, h⟩
  · rw [fieldNat, hfactive, beNat_toBe (by cases z.active <;> decide)]
  · rw [fieldNat, hfcondition, beNat_toBe (by cases z.condition <;> decide)]
  · rw [fieldNat, hfcls, beNat_toBe (by cases z.cls <;> decide)]
  · rw [zoneFields, fieldOptInt_limit h, fieldNat, fieldNat, fieldNat, hfstart, hfwidth, hftag,
      beNat_toBe (by norm_num; omega), beNat_toBe (by norm_num; omega), beNat_toBe (by norm_num; omega)]

/-- A payload of thirteen bytes that passes the checks is that of its zone. -/
theorem payload_of_zoneOf {p : List Byte} (hp : p.length = 13) {z : Zone} (h : zoneOf p = some z) :
    z.Sound ∧ p = z.payload := by
  obtain ⟨hactive, hcondition, hcls, hz, hsound⟩ := zoneOf_eq_some_iff.mp h
  refine ⟨hsound, ?_⟩
  have hstart : z.start = fieldNat p 1 2 := by rw [← hz]; rfl
  have hwidth : z.width = fieldNat p 3 2 := by rw [← hz]; rfl
  have hlimit : z.limit = fieldOptInt p 6 4 := by rw [← hz]; rfl
  have htag : z.tag = fieldNat p 11 2 := by rw [← hz]; rfl
  change p = toBe 1 (activeCode z.active) ++ toBe 2 z.start ++ toBe 2 z.width ++ toBe 1 z.condition.code ++
    optBeInt 4 z.limit ++ toBe 1 z.cls.code ++ toBe 2 z.tag
  rw [← hactive, ← hcondition, ← hcls, hstart, hwidth, hlimit, htag]
  simp (disch := omega) only [toBe_fieldNat, optBeInt_fieldOptInt]
  calc p = p.take (11 + 2) := (List.take_of_length_le (by omega)).symm
    _ = p.take (0 + 1) ++ field p 1 2 ++ field p 3 2 ++ field p 5 1 ++ field p 6 4 ++ field p 10 1 ++ field p 11 2 := by
      rw [take_field p 11 2, take_field p 10 1, take_field p 6 4, take_field p 5 1, take_field p 3 2, take_field p 1 2]
    _ = _ := by rw [take_field p 0 1, List.take_zero, List.nil_append]

/-- A payload that no zone passing the checks has is refused. -/
theorem zoneOf_none {p : List Byte} (hp : p.length = 13) (h : ∀ z : Zone, z.Sound → p ≠ z.payload) : zoneOf p = none := by
  refine Option.eq_none_iff_forall_ne_some.mpr fun z hz => ?_
  obtain ⟨hsound, hpayload⟩ := payload_of_zoneOf hp hz
  exact h z hsound hpayload

/-! ### Sectors -/

/-- The payload of a PUT_ENTRY on SECTORS that carries a sector (11 Table 11-4). -/
def Sector.payload (x : Sector) : List Byte := toBe 1 x.cls.code ++ toBe 1 (yesNo x.firm)

theorem Sector.payload_length (x : Sector) : x.payload.length = 2 := rfl

theorem sectorOf_eq_some_iff {p : List Byte} {x : Sector} :
    sectorOf p = some x ↔ fieldNat p 0 1 = x.cls.code ∧ fieldNat p 1 1 = yesNo x.firm := by
  rw [← clsOf_eq_some_iff]
  obtain ⟨cls, firm⟩ := x
  unfold sectorOf yesNo
  split <;> cases firm <;> simp_all

theorem sectorOf_payload (x : Sector) : sectorOf x.payload = some x := by
  obtain ⟨cls, firm⟩ := x
  rw [sectorOf_eq_some_iff]
  cases cls <;> cases firm <;> decide

theorem payload_of_sectorOf {p : List Byte} (hp : p.length = 2) {x : Sector} (h : sectorOf p = some x) : p = x.payload := by
  obtain ⟨hcls, hfirm⟩ := sectorOf_eq_some_iff.mp h
  rw [Sector.payload, ← hcls, ← hfirm, toBe_fieldNat (by omega), toBe_fieldNat (by omega)]
  calc p = p.take (1 + 1) := (List.take_of_length_le (by omega)).symm
    _ = _ := by rw [take_field p 1 1]; rfl

theorem sectorOf_none {p : List Byte} (hp : p.length = 2) (h : ∀ x : Sector, p ≠ x.payload) : sectorOf p = none :=
  Option.eq_none_iff_forall_ne_some.mpr fun x hx => h x (payload_of_sectorOf hp hx)

/-! ### The place that a PUT names (R63) -/

theorem putPlace_index {α : Type} (entries : List (Option α)) {i : Nat} (h : i ≠ 255) : putPlace entries i = some i :=
  if_neg h

theorem putPlace_lowest {α : Type} {entries : List (Option α)} {k : Nat} (hk : k < entries.length)
    (hempty : entries.getD k none = none) (hbefore : ∀ j, j < k → entries.getD j none ≠ none) :
    putPlace entries 255 = some k := by
  refine List.findIdx?_eq_some_iff_getElem.mpr ⟨hk, ?_, fun j hj => ?_⟩
  · rw [List.getD_eq_getElem _ _ hk] at hempty
    rw [hempty]
    rfl
  · have hfull := hbefore j hj
    rw [List.getD_eq_getElem _ _ (hj.trans hk)] at hfull
    simpa using hfull

theorem putPlace_full {α : Type} {entries : List (Option α)} (h : ∀ e ∈ entries, e ≠ none) : putPlace entries 255 = none :=
  List.findIdx?_eq_none_iff.mpr fun e he => by simpa [Option.isSome_iff_ne_none] using h e he

/-! ### The requests on the two tables -/

section
variable {s : State}

theorem State.putEntry_zones (s : State) (i : Nat) {p : List Byte} (hp : p.length = 13) : s.putEntry 1 i p = s.putZone i p := by
  simp [State.putEntry, tableRefused, putLength, hp]

theorem State.putEntry_sectors (s : State) (i : Nat) {p : List Byte} (hp : p.length = 2) :
    s.putEntry 2 i p = s.putSector i p := by
  simp [State.putEntry, tableRefused, putLength, hp]

theorem State.retireEntry_zones (s : State) (i : Nat) : s.retireEntry 1 i = s.retireZone i := rfl

theorem State.retireEntry_sectors (s : State) (i : Nat) : s.retireEntry 2 i = s.retireSector i := rfl

/-- A request that reported nothing, whatever else it changed, delivers nothing. -/
theorem exec_putEntry_silent {t i : Byte} {p answer : List Byte} {u : State} {result : ResultCode} (h : s.Ready)
    (hin : u.inbox = s.inbox) (hput : s.putEntry t.toNat i.toNat p = (u, result, answer)) :
    exec (.putEntry t i p) s = .next (u.answer 2 result answer) :=
  (exec_putEntry h.1 hput).trans (congrArg Host.Outcome.next (State.deliver_answer_none (hin.trans h.2) _ _ _))

theorem exec_retireEntry_silent {t i : Byte} {answer : List Byte} {u : State} {result : ResultCode} (h : s.Ready)
    (hin : u.inbox = s.inbox) (hretire : s.retireEntry t.toNat i.toNat = (u, result, answer)) :
    exec (.retireEntry t i) s = .next (u.answer 3 result answer) :=
  (exec_retireEntry h.1 hretire).trans (congrArg Host.Outcome.next (State.deliver_answer_none (hin.trans h.2) _ _ _))

/-! ### A CLOSED table refuses -/

section
variable (hclosed : s.zt.isOpen = false)
include hclosed

theorem State.putZone_closed (i : Nat) (p : List Byte) : s.putZone i p = (s, .notOpen, []) := if_pos (by simp [hclosed])

theorem State.retireZone_closed (i : Nat) : s.retireZone i = (s, .notOpen, []) := if_pos (by simp [hclosed])

theorem State.putSector_closed (i : Nat) (p : List Byte) : s.putSector i p = (s, .notOpen, []) := if_pos (by simp [hclosed])

theorem State.retireSector_closed (i : Nat) : s.retireSector i = (s, .notOpen, []) := if_pos (by simp [hclosed])

end

/-! ### An OPEN table -/

section
variable (hopen : s.zt.isOpen = true)
include hopen

theorem State.putZone_badIndex {i : Nat} (p : List Byte) (hi : 12 ≤ i ∧ i ≠ 255) :
    s.putZone i p = (s.startEdit, .badIndex, []) := by
  rw [State.putZone, if_neg (by simp [hopen])]
  exact if_pos hi

theorem State.putZone_badValue {i : Nat} {p : List Byte} (hi : i < 12 ∨ i = 255) (hnone : zoneOf p = none) :
    s.putZone i p = (s.startEdit, .badValue, []) := by
  rw [State.putZone, if_neg (by simp [hopen]), hnone]
  exact if_neg (by rw [anyIndex]; omega)

theorem State.putZone_full {p : List Byte} {z : Zone} (hz : zoneOf p = some z) (hplace : putPlace s.ret.zones 255 = none) :
    s.putZone 255 p = (s.startEdit, .full, []) := by
  rw [State.putZone, if_neg (by simp [hopen]), hz, hplace]
  rfl

theorem State.putZone_writes {i k : Nat} {p : List Byte} {z : Zone} (hi : i < 12 ∨ i = 255) (hz : zoneOf p = some z)
    (hplace : putPlace s.ret.zones i = some k) :
    s.putZone i p = ((s.startEdit.setZone k (some z)).evaluateLimits, .ok, indexWritten k) := by
  rw [State.putZone, if_neg (by simp [hopen]), hz, hplace]
  exact if_neg (by rw [anyIndex]; omega)

theorem State.retireZone_badIndex {i : Nat} (hi : 12 ≤ i) : s.retireZone i = (s.startEdit, .badIndex, []) := by
  rw [State.retireZone, if_neg (by simp [hopen])]
  exact if_pos hi

theorem State.retireZone_empty {i : Nat} (hi : i < 12) (hempty : s.ret.zones.getD i none = none) :
    s.retireZone i = (s.startEdit, .empty, []) := by
  rw [State.retireZone, if_neg (by simp [hopen]), hempty]
  exact if_neg (by omega)

theorem State.retireZone_writes {i : Nat} (hi : i < 12) {z : Zone} (hz : s.ret.zones.getD i none = some z) :
    s.retireZone i = ((s.startEdit.setZone i none).evaluateLimits, .ok, []) := by
  rw [State.retireZone, if_neg (by simp [hopen]), hz]
  exact if_neg (by omega)

theorem State.putSector_badIndex {i : Nat} (p : List Byte) (hi : 32 ≤ i) :
    s.putSector i p = (s.startEdit, .badIndex, []) := by
  rw [State.putSector, if_neg (by simp [hopen])]
  exact if_pos hi

theorem State.putSector_badValue {i : Nat} {p : List Byte} (hi : i < 32) (hnone : sectorOf p = none) :
    s.putSector i p = (s.startEdit, .badValue, []) := by
  rw [State.putSector, if_neg (by simp [hopen]), hnone]
  exact if_neg (by omega)

theorem State.putSector_writes {i : Nat} {p : List Byte} {x : Sector} (hi : i < 32) (hx : sectorOf p = some x) :
    s.putSector i p = ((s.startEdit.setSector i x).evaluateLimits, .ok, indexWritten i) := by
  rw [State.putSector, if_neg (by simp [hopen]), hx]
  exact if_neg (by omega)

theorem State.retireSector_badIndex {i : Nat} (hi : 32 ≤ i) : s.retireSector i = (s.startEdit, .badIndex, []) := by
  rw [State.retireSector, if_neg (by simp [hopen]), if_pos hi]

theorem State.retireSector_writes {i : Nat} (hi : i < 32) :
    s.retireSector i = ((s.startEdit.setSector i defaultSector).evaluateLimits, .ok, []) := by
  rw [State.retireSector, if_neg (by simp [hopen]), if_neg (by omega)]

end

end

end Sys2Proof.Machine

open Sys2Proof Sys2Proof.Machine in
/-- Settles O42: a payload reads back as its zone or sector (`zoneOf_payload`, `sectorOf_payload`), one that is refused is none's
(`zoneOf_none`, `sectorOf_none`), and each outcome of the four requests is a lemma of its own. -/
theorem zoneEntriesWritten : Obligations.ZoneEntriesWritten := by
  intro s i h t zone sector flag
  have hany : i = 255 → i.toNat = 255 := fun hi => by rw [hi]; rfl
  have hnotAny : i ≠ 255 → i.toNat ≠ 255 := fun hne heq => hne (BitVec.eq_of_toNat_eq heq)
  refine ⟨fun p hclosed => ⟨fun hp => ?_, fun hp => ?_, ?_, ?_⟩, fun hopen =>
    ⟨fun z hz => ⟨fun hi => ?_, fun k hi _ hk hempty hbefore => ?_, fun hi hfull => ?_⟩,
      fun p hp => ⟨fun hi hne => ?_, fun hi hnone => ?_⟩, fun z hi hz => ?_, fun hi hempty => ?_, fun hi => ?_,
      fun c firm hi => ?_, fun p hp => ⟨fun hi => ?_, fun hi hnone => ?_⟩, fun hi => ?_, fun hi => ?_⟩⟩
  · exact exec_putEntry_silent h rfl ((s.putEntry_zones _ hp).trans (State.putZone_closed hclosed _ p))
  · exact exec_putEntry_silent h rfl ((s.putEntry_sectors _ hp).trans (State.putSector_closed hclosed _ p))
  · exact exec_retireEntry_silent h rfl (State.retireZone_closed hclosed _)
  · exact exec_retireEntry_silent h rfl (State.retireSector_closed hclosed _)
  · have hput := State.putZone_writes hopen (.inl hi) (zoneOf_payload hz) (putPlace_index _ (by omega))
    rw [indexWritten_toNat] at hput
    exact exec_putEntry h.1 ((s.putEntry_zones _ z.payload_length).trans hput)
  · have hput := State.putZone_writes hopen (.inr rfl) (zoneOf_payload hz) (putPlace_lowest hk hempty hbefore)
    rw [← hany hi] at hput
    exact exec_putEntry h.1 ((s.putEntry_zones _ z.payload_length).trans hput)
  · have hput := State.putZone_full hopen (zoneOf_payload hz) (putPlace_full hfull)
    rw [← hany hi] at hput
    exact exec_putEntry_silent h rfl ((s.putEntry_zones _ z.payload_length).trans hput)
  · exact exec_putEntry_silent h rfl ((s.putEntry_zones _ hp).trans (State.putZone_badIndex hopen p ⟨hi, hnotAny hne⟩))
  · exact exec_putEntry_silent h rfl
      ((s.putEntry_zones _ hp).trans (State.putZone_badValue hopen (hi.imp id hany) (zoneOf_none hp hnone)))
  · exact exec_retireEntry h.1 (State.retireZone_writes hopen hi hz)
  · exact exec_retireEntry_silent h rfl (State.retireZone_empty hopen hi hempty)
  · exact exec_retireEntry_silent h rfl (State.retireZone_badIndex hopen hi)
  · have hput := (s.putEntry_sectors i.toNat (Sector.payload_length ⟨c, firm⟩)).trans
      (State.putSector_writes hopen hi (sectorOf_payload ⟨c, firm⟩))
    rw [indexWritten_toNat] at hput
    exact exec_putEntry h.1 hput
  · exact exec_putEntry_silent h rfl ((s.putEntry_sectors _ hp).trans (State.putSector_badIndex hopen p hi))
  · have hvalue : sectorOf p = none := sectorOf_none hp fun x => hnone x.cls x.firm
    exact exec_putEntry_silent h rfl ((s.putEntry_sectors _ hp).trans (State.putSector_badValue hopen hi hvalue))
  · exact exec_retireEntry h.1 (State.retireSector_writes hopen hi)
  · exact exec_retireEntry_silent h rfl (State.retireSector_badIndex hopen hi)
end

-- ==== Proofs of sitting 5: the targets of the owners ====

section
/-! PROOFS. The four channels hold the targets that their owners' records give with the configuration in force (05 R83, R84,
06 R98, R99, R101, 07 R119): each owner hands its target on in the same operation that replaces its record, and a new configuration
hands its channel's target back. -/

namespace Sys2Proof.Machine

/-! ### The owners' targets of a Valve Drive -/

/-- The targets that the owners have handed to the channels (10 R162). -/
def Vd.owners (v : Vd) : List Nat := v.chans.map Channel.owner

theorem Vd.owners_eq_iff {v : Vd} {a b c d : Nat} :
    v.owners = [a, b, c, d] ↔ v.chans.length = 4 ∧ (v.chan 0).owner = a ∧ (v.chan 1).owner = b ∧ (v.chan 2).owner = c ∧
      (v.chan 3).owner = d := by
  have hfour (h : v.chans.length = 4) :
      v.owners = [(v.chan 0).owner, (v.chan 1).owner, (v.chan 2).owner, (v.chan 3).owner] := by
    obtain ⟨w, x, y, z, hchans⟩ := List.length_eq_four.mp h
    simp [Vd.owners, Vd.chan, hchans]
  constructor
  · intro h
    have hlength : v.chans.length = 4 := by simpa [Vd.owners] using congrArg List.length h
    simpa [hlength, hfour hlength] using h
  · rintro ⟨hlength, rfl, rfl, rfl, rfl⟩
    exact hfour hlength

theorem Vd.owners_setChan (v : Vd) (ch : Nat) (c : Channel) : (v.setChan ch c).owners = v.owners.set ch c.owner :=
  List.map_set

theorem Vd.owners_hand (v : Vd) (ch target : Nat) : (v.hand ch target).owners = v.owners.set ch target :=
  v.owners_setChan ch _

/-- A channel replaced by one with the same owner's target. -/
theorem Vd.owners_setChan_same (v : Vd) {ch : Nat} {c : Channel} (h : c.owner = (v.chan ch).owner) :
    (v.setChan ch c).owners = v.owners := by
  rw [Vd.owners_setChan, h, ← Vd.owners_hand, Vd.hand_self]

theorem Vd.owners_mapChans (v : Vd) {f : Channel → Channel} (hf : ∀ c, (f c).owner = c.owner) :
    (v.chans.map f).map Channel.owner = v.owners := by
  rw [List.map_map]
  exact List.map_congr_left fun c _ => hf c

theorem Vd.owners_elapse (v : Vd) (dt : Nat) : (v.elapse dt).owners = v.owners := v.owners_mapChans fun _ => rfl

theorem Vd.owners_takeFault (v : Vd) (ch : Nat) (kind : FaultKind) : (v.takeFault ch kind).owners = v.owners := by
  have hfaulted : (v.setChan ch { (v.chan ch).switchOff with fault := some kind }).owners = v.owners :=
    v.owners_setChan_same rfl
  unfold Vd.takeFault Vd.endTestOf
  repeat' split
  all_goals exact hfaulted

theorem Vd.owners_judgeSupply (v : Vd) (down up supply : Nat) : (v.judgeSupply down up supply).owners = v.owners := by
  unfold Vd.judgeSupply
  split <;> rfl

theorem Vd.owners_applyConfig (v : Vd) (ch : Nat) (cfg : ChannelConfig) : (v.applyConfig ch cfg).owners = v.owners := by
  refine v.owners_setChan_same ?_
  exact (apply_ite Channel.owner _ _ _).trans (ite_self _)

/-! ### The targets that are due -/

/-- The targets that the owners' records give with the configuration in force (R83, R101, R119). -/
def State.dueTargets (s : State) : List Nat :=
  [slewTarget (s.ret.config 0) s.slm.record.left, slewTarget (s.ret.config 1) s.slm.record.right, s.gg.floor.target,
    torqueTarget (s.ret.config 3).imax s.ec.torque]

/-- The invariant in the terms of the operations that keep it: the floor record's target is the one that R101 works out, and the
channels hold what is due. -/
theorem State.targetsSound_iff {s : State} :
    s.TargetsSound ↔
      s.ret.configs.length = 4 ∧ restatedFloor s.ret s.gg.floor = s.gg.floor ∧ s.vd.owners = s.dueTargets := by
  have hfloor : restatedFloor s.ret s.gg.floor = s.gg.floor ↔ s.gg.floor.target = floorTarget (s.ret.config 2).imax
      (if s.gg.floor.state = .holding then s.gg.floor.held.getD .none else s.gg.floor.state) s.gg.floor.band s.gg.floor.dF :=
    ⟨fun h => (congrArg FloorRecord.target h).symm, fun h => congrArg (fun t => { s.gg.floor with target := t }) h.symm⟩
  rw [State.dueTargets, Vd.owners_eq_iff, hfloor]
  tauto

/-- A channel's new configuration leaves those of the others. -/
theorem Retained.config_set_other (r : Retained) {ch k : Nat} (h : ch ≠ k) (c : ChannelConfig) :
    Retained.config { r with configs := r.configs.set ch c } k = r.config k := by
  simp [Retained.config, List.getD_eq_getElem?_getD, h]

/-! ### The floor record (R98, R99) -/

theorem restatedFloor_measured (ret : Retained) (phi : Nat) (x y z : Int) :
    restatedFloor ret (floorMeasured ret phi x y z) = floorMeasured ret phi x y z := by
  have hstate := floorMeasured_state_ne_holding ret phi x y z
  rw [restatedFloor, if_neg hstate]
  unfold floorMeasured
  split <;> rfl

/-- An evaluation keeps the target of the record that it holds, or works out that of the record it measures. -/
theorem restatedFloor_next (ret : Retained) (p : Pose) {f : FloorRecord} (h : restatedFloor ret f = f) :
    restatedFloor ret (floorNext ret p f) = floorNext ret p f := by
  unfold floorNext
  split
  · exact restatedFloor_measured ret _ _ _ _
  split
  · rfl
  split
  · exact h
  · exact h
  · next hholding _ =>
    have hhold : restatedFloor ret { f with state := .holding, held := some f.state } =
        { restatedFloor ret f with state := .holding, held := some f.state } := by
      rw [restatedFloor, restatedFloor, if_neg hholding]
      rfl
    rw [hhold, h]

/-! ### Steps that keep a property of the state -/

section
variable {P : State → Prop} {s t : State} {f : State → State}

/-- What an effect and the delivery of its reports keep, the step that it makes keeps. -/
theorem State.commit_keeps (hdeliver : ∀ u : State, P u → P u.deliver) (hf : ∀ u : State, P u → P (f u)) (h : P s)
    (ht : s.commit f = .next t) : P t := by
  by_cases hp : s.phase = .running
  · rw [State.commit_running hp] at ht
    cases ht
    exact hdeliver _ (hf s h)
  · rw [State.commit_stopped hp] at ht
    cases ht
    exact h

theorem State.commitPins_keeps {p : Pins} (hdeliver : ∀ u : State, P u → P u.deliver) (hf : ∀ u : State, P u → P (f u))
    (h : P { s with pins := p }) (ht : s.commitPins p f = .next t) : P t := by
  by_cases hp : s.phase = .running
  · rw [State.commitPins_running hp] at ht
    cases ht
    exact hdeliver _ (hf _ h)
  · rw [State.commitPins_stopped hp] at ht
    cases ht
    exact h

theorem State.expire_keeps {timer : Timer} (helapse : ∀ (u : State) (dt : Nat), P u → P (u.elapse dt))
    (hf : ∀ u : State, P u → P (f u)) (h : P s) : P (s.expire timer f) := by
  cases timer with
  | none => exact h
  | some left => exact hf _ (helapse s left h)

end

namespace State.TargetsSound

variable {s : State}

/-! ### What each owner does -/

/-- The Valve Drive's own operations leave the owners' targets as they were. -/
theorem setVd (h : s.TargetsSound) {v : Vd} (hv : v.owners = s.vd.owners) : State.TargetsSound { s with vd := v } := by
  obtain ⟨hconfigs, hfloor, howners⟩ := State.targetsSound_iff.mp h
  exact State.targetsSound_iff.mpr ⟨hconfigs, hfloor, hv.trans howners⟩

theorem evaluateLimits (h : s.TargetsSound) : s.evaluateLimits.TargetsSound := by
  obtain ⟨hconfigs, hfloor, howners⟩ := State.targetsSound_iff.mp h
  refine State.targetsSound_iff.mpr ⟨hconfigs, hfloor, ?_⟩
  rw [State.evaluateLimits_vd, handSlewTargets, Vd.owners_hand, Vd.owners_hand, howners]
  rfl

theorem setFloor (h : s.TargetsSound) {f : FloorRecord} {hold : Timer} (hf : restatedFloor s.ret f = f) :
    (s.setFloor f hold).TargetsSound := by
  obtain ⟨hconfigs, -, howners⟩ := State.targetsSound_iff.mp h
  refine State.targetsSound_iff.mpr ⟨hconfigs, hf, ?_⟩
  rw [State.setFloor_vd, Vd.owners_hand, howners]
  rfl

theorem evaluateGrade (h : s.TargetsSound) : s.evaluateGrade.TargetsSound := by
  obtain ⟨-, hfloor, -⟩ := State.targetsSound_iff.mp h
  exact setFloor (s := { s with gg := { s.gg with guidance := guidanceOf s.ret s.gg.held } }) h (restatedFloor_next _ _ hfloor)

/-- T that changes is handed on; T that stays has its target in place already (R119). -/
theorem workOutTorque (h : s.TargetsSound) : s.workOutTorque.TargetsSound := by
  obtain ⟨hconfigs, hfloor, howners⟩ := State.targetsSound_iff.mp h
  refine State.targetsSound_iff.mpr ⟨hconfigs, hfloor, ?_⟩
  unfold State.workOutTorque State.dueTargets
  split
  · next hsame =>
    rw [hsame]
    exact howners
  · rw [Vd.owners_hand, howners]
    rfl

/-- A new configuration of a channel hands back the target that its owner's record gives with it (R161). -/
theorem writeChannel (h : s.TargetsSound) (ch : Nat) (c : ChannelConfig) : (s.writeChannel ch c).TargetsSound := by
  obtain ⟨hconfigs, hfloor, howners⟩ := State.targetsSound_iff.mp h
  have hother {k : Nat} (hk : ch ≠ k) := s.ret.config_set_other hk c
  have hlength : (s.ret.configs.set ch c).length = 4 := List.length_set.trans hconfigs
  have hkept : ch ≠ 2 → restatedFloor { s.ret with configs := s.ret.configs.set ch c } s.gg.floor = s.gg.floor := fun hch => by
    rw [restatedFloor, hother hch]
    exact hfloor
  unfold State.writeChannel State.handBack
  split
  case h_3 =>
    refine State.targetsSound_iff.mpr ⟨hlength, rfl, ?_⟩
    simp [State.dueTargets, Vd.owners_hand, Vd.owners_applyConfig, howners, hother]
  case h_5 h0 h1 h2 h3 =>
    refine State.targetsSound_iff.mpr ⟨hlength, hkept h2, ?_⟩
    simp [State.dueTargets, Vd.owners_applyConfig, howners, hother h0, hother h1, hother h3]
  all_goals
    refine State.targetsSound_iff.mpr ⟨hlength, hkept (by decide), ?_⟩
    simp [State.dueTargets, Vd.owners_hand, Vd.owners_applyConfig, howners, hother]

/-! ### Operations that several commands share -/

theorem elapse (h : s.TargetsSound) (dt : Nat) : (s.elapse dt).TargetsSound :=
  setVd (s := { s.elapse dt with vd := s.vd }) h (s.vd.owners_elapse dt)

theorem report (h : s.TargetsSound) (rs : List Report) : (s.report rs).TargetsSound := h

theorem answer (h : s.TargetsSound) (code : Nat) (r : ResultCode) (p : List Byte) : (s.answer code r p).TargetsSound := h

theorem derateReport (h : s.TargetsSound) (due : Bool) : (s.derateReport due).TargetsSound := by
  unfold State.derateReport
  split
  · exact h.workOutTorque
  · exact h

theorem serviceEvent (h : s.TargetsSound) (p : ServiceBasis → Bool) (f : Item → Item) :
    (s.serviceEvent p f).TargetsSound := by
  unfold State.serviceEvent
  refine derateReport ?_ _
  exact h

theorem writeItem (h : s.TargetsSound) (i : Nat) (it : Item) : (s.writeItem i it).TargetsSound := by
  unfold State.writeItem
  refine derateReport ?_ _
  exact h

theorem recompute (h : s.TargetsSound) : s.recompute.TargetsSound := by
  have hpublished : (s.publish s.nextPose).TargetsSound := h
  unfold State.recompute
  dsimp only
  split
  · exact hpublished.evaluateLimits.evaluateGrade.serviceEvent _ _
  · exact hpublished.evaluateLimits.evaluateGrade

theorem takeFault (h : s.TargetsSound) (ch : Nat) (kind : FaultKind) : (s.takeFault ch kind).TargetsSound :=
  h.setVd (s.vd.owners_takeFault ch kind)

theorem judgeSupply (h : s.TargetsSound) : s.judgeSupply.TargetsSound := h.setVd (s.vd.owners_judgeSupply _ _ _)

theorem endTest (h : s.TargetsSound) : State.TargetsSound { s with vd := s.vd.endTest } := h

/-! ### The Economy Controller: whatever moves its state works T out afresh -/

theorem ecoMove (h : s.TargetsSound) (st : EconomyState) (auto shut wait : Timer) :
    (s.ecoMove st auto shut wait).TargetsSound := by
  unfold State.ecoMove
  refine workOutTorque (report ?_ _)
  split
  · exact h
  · exact h.endTest

theorem judgeEngine (h : s.TargetsSound) : s.judgeEngine.TargetsSound := by
  unfold State.judgeEngine State.enterWorking
  repeat' split
  any_goals exact h
  all_goals exact h.ecoMove _ _ _ _

theorem judgeActivity (h : s.TargetsSound) : s.judgeActivity.TargetsSound := by
  have hjudged : State.TargetsSound { s with ec := { s.ec with active := activityNow s.ret.settings s.ec } } := h
  unfold State.judgeActivity State.activityBegins State.activityEnds
  dsimp only
  repeat' split
  any_goals exact hjudged
  all_goals exact hjudged.ecoMove _ _ _ _

theorem judgeOil (h : s.TargetsSound) : s.judgeOil.TargetsSound := by
  unfold State.judgeOil
  dsimp only
  split
  · exact h
  · exact workOutTorque (s := State.report { s with ec := _ } _) h

theorem autoIdleWritten (h : s.TargetsSound) (before : Nat) : (s.autoIdleWritten before).TargetsSound := by
  unfold State.autoIdleWritten
  repeat' split
  any_goals exact h
  all_goals exact h.ecoMove _ _ _ _

theorem shutdownWritten (h : s.TargetsSound) (before : Nat) : (s.shutdownWritten before).TargetsSound := by
  unfold State.shutdownWritten
  repeat' split
  all_goals exact h

theorem ecSource (h : s.TargetsSound) (i : Nat) (x : SourceSlot) (accepted : Bool) :
    (s.ecSource i x accepted).TargetsSound := by
  have hcopied : State.TargetsSound { s with ec := { s.ec with copies := s.ec.copies.set (i - 3) ⟨x.state, x.lastGood⟩ } } := h
  unfold State.ecSource
  dsimp only
  split
  · split
    · unfold State.pumpSample
      split <;> exact hcopied
    · exact hcopied
  · exact hcopied.judgeEngine
  · split
    · exact hcopied
    · unfold State.fuelState
      split <;> exact hcopied
  · exact hcopied.judgeOil
  · exact hcopied.judgeActivity
  · exact hcopied

theorem selectMode (h : s.TargetsSound) (i : Nat) : (s.selectMode i).TargetsSound := by
  have hselected : State.TargetsSound { s with ret := { s.ret with selectedMode := i } } := h
  unfold State.selectMode
  dsimp only
  split
  · exact workOutTorque (s := { s with ret := _, ec := _ }) h
  · split <;> exact hselected.ecoMove _ _ _ _
  · exact hselected.workOutTorque

/-! ### Samples, slots, gates, quanta -/

theorem tellConsumer (h : s.TargetsSound) (i : Nat) (changed accepted : Bool) :
    (s.tellConsumer i changed accepted).TargetsSound := by
  unfold State.tellConsumer
  split
  · split
    · exact recompute (s := { s with pu := _ }) h
    · exact h
  split
  · exact h.ecSource _ _ _
  · exact h

theorem takeSample (f : CanFrame) (h : s.TargetsSound) (i : Nat) : (State.takeSample f s i).TargetsSound := by
  unfold State.takeSample
  split
  · exact tellConsumer (s := (s.setSlot i _).report _) h _ _ _
  · exact tellConsumer (s := (s.setSlot i _).report _) h _ _ _

theorem foldl {α : Type} {op : State → α → State} (hop : ∀ (u : State) (a : α), u.TargetsSound → (op u a).TargetsSound)
    (l : List α) (h : s.TargetsSound) : (l.foldl op s).TargetsSound :=
  List.foldlRecOn (motive := State.TargetsSound) l op h fun u hu a _ => hop u a hu

theorem frameArrives (h : s.TargetsSound) (f : CanFrame) : (s.frameArrives f).TargetsSound :=
  foldl (s := { s with choice := _ }) (fun _ i hu => hu.takeSample f i) _ h

theorem sourceLost (h : s.TargetsSound) (i : Nat) : (s.sourceLost i).TargetsSound :=
  tellConsumer (s := (s.setSlot i _).report _) h _ _ _

theorem writeSource (h : s.TargetsSound) (i : Nat) (x : SourceRecord) : (s.writeSource i x).TargetsSound :=
  tellConsumer (s := ((s.setSource i x).setSlot i _).report _) h _ _ _

theorem closeGate (h : s.TargetsSound) (count : Nat) (r : Bool) : (s.closeGate count r).TargetsSound := by
  have hpose (phi : Nat) (w : Int) : (State.puGate { s with sc := s.sc.closed s.ret.settings } phi r w).TargetsSound :=
    recompute (s := { s with sc := _, pu := _ }) h
  have hgate (phi : Nat) (w : Int) :
      ((State.puGate { s with sc := s.sc.closed s.ret.settings } phi r w).ecGate w).TargetsSound :=
    judgeActivity (s := { (State.puGate _ phi r w) with ec := _ }) (hpose phi w)
  unfold State.closeGate
  dsimp only
  split
  · exact (hgate _ _).serviceEvent _ _
  · exact hgate _ _

theorem gateExpires (h : s.TargetsSound) : s.gateExpires.TargetsSound := by
  unfold State.gateExpires
  split <;> exact h.closeGate _ _

theorem completeQuantum (h : s.TargetsSound) : s.completeQuantum.TargetsSound := by
  have hmetered (c : LoadClass) (partialMs overMs : Nat) : State.TargetsSound
      { s with
        ret := s.ret.metered c
        ec := { s.ec with partialMs := partialMs, overMs := overMs, pumpSum := 0, pumpCount := 0 } } := h
  unfold State.completeQuantum State.serviceQuantum
  exact (hmetered _ _ _).serviceEvent _ _

theorem rampExpires (h : s.TargetsSound) (ch : Nat) (sensed : List Nat) : (s.rampExpires ch sensed).TargetsSound := by
  have hramped (cfg : ChannelConfig) (low : Bool) (effective now : Nat) : State.TargetsSound
      { s with vd := s.vd.setChan ch (Channel.ramped cfg low effective now sensed (s.vd.chan ch)) } :=
    h.setVd (s.vd.owners_setChan_same rfl)
  unfold State.rampExpires
  dsimp only
  split
  · exact takeFault (hramped _ _ _ _) _ _
  · exact hramped _ _ _ _

theorem supplyFalls (h : s.TargetsSound) : s.supplyFalls.TargetsSound :=
  judgeSupply (s := State.report { s with vd := _ } _) (h.setVd (s.vd.owners_mapChans fun _ => rfl))

theorem supplyRises (h : s.TargetsSound) : s.supplyRises.TargetsSound :=
  judgeSupply (s := State.report { s with vd := _ } _) h

theorem periodEnds (h : s.TargetsSound) (b : Bool) : (s.periodEnds b).TargetsSound := by
  unfold State.periodEnds
  repeat' split
  all_goals exact h

theorem attemptEnds (h : s.TargetsSound) (b : Bool) : (s.attemptEnds b).TargetsSound := by
  unfold State.attemptEnds
  repeat' split
  all_goals exact h

/-! ### Requests -/

theorem openZones (h : s.TargetsSound) : s.openZones.TargetsSound := by
  unfold State.openZones
  split
  · exact h
  · exact evaluateLimits (s := State.report { s with zt := _ } _) h

theorem closeTable (h : s.TargetsSound) (rs : List Report) : (s.closeTable rs).TargetsSound :=
  evaluateLimits (s := State.report { s with zt := _ } rs) h

theorem selectTarget (h : s.TargetsSound) (i : Nat) : (s.selectTarget i).1.TargetsSound := by
  have hselect (selection : Option Nat) : (s.setSelection selection).TargetsSound := evaluateGrade (s := { s with ret := _ }) h
  unfold State.selectTarget
  repeat' split
  any_goals exact h
  all_goals exact hselect _

theorem serviceDone (h : s.TargetsSound) (i : Nat) : (s.serviceDone i).1.TargetsSound := by
  unfold State.serviceDone
  repeat' split
  any_goals exact h
  exact h.writeItem _ _

theorem ackHead (h : s.TargetsSound) : s.ackHead.1.TargetsSound := by
  unfold State.ackHead
  split <;> exact h

theorem ackNotice (h : s.TargetsSound) (n : Nat) : (s.ackNotice n).1.TargetsSound := by
  unfold State.ackNotice
  repeat' split
  all_goals exact h

theorem clearValveFault (h : s.TargetsSound) (ch : Nat) : (s.clearValveFault ch).1.TargetsSound := by
  unfold State.clearValveFault
  repeat' split
  any_goals exact h
  exact h.setVd (s.vd.owners_setChan_same rfl)

theorem driveTest (h : s.TargetsSound) (ch c d : Nat) : (s.driveTest ch c d).1.TargetsSound := by
  unfold State.driveTest
  repeat' split
  all_goals exact h

theorem driveTestStop (h : s.TargetsSound) : s.driveTestStop.1.TargetsSound := by
  unfold State.driveTestStop
  split <;> exact h

/-! ### Requests on tables -/

theorem setZone (h : s.TargetsSound) (i : Nat) (z : Option Zone) : (s.startEdit.setZone i z).evaluateLimits.TargetsSound :=
  evaluateLimits (s := s.startEdit.setZone i z) h

theorem setSector (h : s.TargetsSound) (i : Nat) (x : Sector) : (s.startEdit.setSector i x).evaluateLimits.TargetsSound :=
  evaluateLimits (s := s.startEdit.setSector i x) h

theorem writeSurface (h : s.TargetsSound) (i : Nat) (e : Option Surface) : (s.writeSurface i e).TargetsSound :=
  evaluateGrade (s := { s with ret := _ }) h

theorem writeMode (h : s.TargetsSound) (i : Nat) (m : WorkMode) : (s.writeMode i m).TargetsSound := by
  unfold State.writeMode
  dsimp only
  split
  · exact workOutTorque (s := { s with ret := _ }) h
  · exact h

theorem writeGeometry (h : s.TargetsSound) (g : Geometry) : (s.writeGeometry g).TargetsSound :=
  recompute (s := State.report { s with ret := _ } _) h

theorem settingChanged (h : s.TargetsSound) (before : Settings) (n : Nat) : (s.settingChanged before n).TargetsSound := by
  unfold State.settingChanged
  split
  case h_1 =>
    rw [State.busRejoined_frame]
    exact h
  case h_2 =>
    rw [State.demandWritten_frame]
    exact h
  case h_3 =>
    rw [State.demandWritten_frame]
    exact h
  case h_4 => exact h
  case h_5 => exact h
  case h_13 => exact h.evaluateGrade
  case h_14 => exact h.evaluateGrade
  case h_15 => exact h.judgeEngine
  case h_16 => exact h.autoIdleWritten _
  case h_17 => exact h.shutdownWritten _
  case h_18 => exact h.judgeActivity
  case h_19 => exact h.workOutTorque
  case h_20 => exact h.judgeOil
  case h_21 => exact h.workOutTorque
  case h_22 => exact h.judgeSupply
  case h_23 => exact h.judgeSupply
  case h_24 => exact h
  all_goals exact h.evaluateLimits

theorem applySetting (h : s.TargetsSound) (n : Nat) (x : Settings) : (s.applySetting n x).TargetsSound := by
  unfold State.applySetting
  split
  · exact h
  · exact settingChanged (s := s.setSettings x) h _ _

theorem writeSetting (h : s.TargetsSound) (n : Nat) (v : Int) : (s.writeSetting n v).1.TargetsSound := by
  unfold State.writeSetting
  split
  · exact h
  · exact h.applySetting _ _

/-- A PUT_ENTRY leaves the state to one write of its table, or is refused and writes nothing. -/
theorem putEntry (h : s.TargetsSound) (table i : Nat) (p : List Byte) : (s.putEntry table i p).1.TargetsSound := by
  unfold State.putEntry State.putZone State.putSector State.putSurface State.putItem State.putSource State.putMode
    State.putChannel State.putGeometry State.putSetting
  dsimp only
  repeat' split
  any_goals exact h
  · exact h.setZone _ _
  · exact h.setSector _ _
  · exact h.writeSurface _ _
  · exact h.writeItem _ _
  · exact h.writeSource _ _
  · exact h.writeMode _ _
  · exact h.writeChannel _ _
  · exact h.writeGeometry _
  · exact h.writeSetting _ _

/-- A RETIRE_ENTRY, likewise. -/
theorem retireEntry (h : s.TargetsSound) (table i : Nat) : (s.retireEntry table i).1.TargetsSound := by
  unfold State.retireEntry State.retireZone State.retireSector State.retireSurface State.retireItem State.retireSourceEntry
    State.retireChannel State.retireGeometry State.retireSetting
  dsimp only
  repeat' split
  any_goals exact h
  · exact h.setZone _ _
  · exact h.setSector _ _
  · exact h.writeSurface _ _
  · refine derateReport ?_ _
    exact h
  · exact h.writeSource _ _
  · exact h.writeChannel _ _
  · exact h.writeGeometry _
  · exact h.writeSetting _ _

/-! ### Resets and CLEAR_RETAINED -/

/-- Every owner starts with a record, and its channel with the target that the record gives (R87, R104, R126, R174). -/
theorem start (hconfigs : s.ret.configs.length = 4) (extra : List Report) : (s.start extra).TargetsSound :=
  State.targetsSound_iff.mpr ⟨hconfigs, rfl, Vd.owners_judgeSupply _ _ _ _⟩

theorem powerUp (hconfigs : s.ret.configs.length = 4) : s.powerUp.TargetsSound := by
  refine start (s := s.judgeRetained) ?_ _
  unfold State.judgeRetained
  dsimp only
  split
  · rfl
  · exact hconfigs

theorem settingDefaults (h : s.TargetsSound) (l : List Nat) : (l.foldl State.settingDefault s).TargetsSound :=
  foldl (fun _ n hu => hu.applySetting n _) l h

theorem clearBus (h : s.TargetsSound) : s.clearBus.TargetsSound := by
  have hslots := foldl (op := State.retireSource) (fun _ i hu => hu.writeSource i _) (List.range 8) h
  unfold State.clearBus
  exact hslots.settingDefaults _

theorem clearSlew (h : s.TargetsSound) : s.clearSlew.TargetsSound := by
  unfold State.clearSlew
  exact h.settingDefaults _

theorem clearZones (h : s.TargetsSound) : s.clearZones.TargetsSound := by
  unfold State.clearZones
  refine evaluateLimits ?_
  exact h

theorem clearLimiter (h : s.TargetsSound) : s.clearLimiter.TargetsSound := by
  unfold State.clearLimiter
  refine evaluateLimits ?_
  exact h

theorem clearGrade (h : s.TargetsSound) : s.clearGrade.TargetsSound := by
  unfold State.clearGrade
  refine evaluateGrade ?_
  exact h

theorem clearEconomy (h : s.TargetsSound) : s.clearEconomy.TargetsSound := by
  unfold State.clearEconomy
  refine workOutTorque (judgeOil (judgeActivity (judgeEngine ?_)))
  exact h

theorem clearService (h : s.TargetsSound) : s.clearService.TargetsSound := by
  unfold State.clearService
  refine workOutTorque ?_
  exact h

theorem clearValves (h : s.TargetsSound) : s.clearValves.TargetsSound := by
  unfold State.clearValves
  have hchannels := foldl (op := State.channelDefault) (fun _ ch hu => hu.writeChannel ch _) (List.range 4) h
  refine judgeSupply ?_
  exact hchannels

theorem clearNoticeSettings (h : s.TargetsSound) : s.clearNoticeSettings.TargetsSound := h

theorem clearRetained (h : s.TargetsSound) : s.clearRetained.TargetsSound := by
  have hgrade := (h.clearBus.clearSlew.writeGeometry defaultGeometry).clearZones.clearLimiter.clearGrade
  have hvalves := hgrade.clearEconomy.clearService.clearValves
  unfold State.clearRetained
  exact hvalves.clearNoticeSettings

theorem clearRetainedRequest (h : s.TargetsSound) : s.clearRetainedRequest.1.TargetsSound := by
  unfold State.clearRetainedRequest
  split
  · exact h
  split
  · exact h
  · dsimp only
    exact h.clearRetained

/-! ### Every command -/

theorem commit {t : State} (h : s.TargetsSound) {f : State → State} (ht : s.commit f = .next t)
    (hf : ∀ u : State, u.TargetsSound → (f u).TargetsSound) : t.TargetsSound :=
  State.commit_keeps (P := State.TargetsSound) (fun _ hu => hu) hf h ht

theorem commitPins {t : State} (h : s.TargetsSound) {p : Pins} {f : State → State} (ht : s.commitPins p f = .next t)
    (hf : ∀ u : State, u.TargetsSound → (f u).TargetsSound) : t.TargetsSound :=
  State.commitPins_keeps (p := p) (P := State.TargetsSound) (fun _ hu => hu) hf h ht

/-- A timer's expiry keeps the invariant where its effect does. -/
theorem commitExpire {t : State} (h : s.TargetsSound) {pick : State → Timer} {f : State → State}
    (ht : s.commit (fun s => s.expire (pick s) f) = .next t) (hf : ∀ u : State, u.TargetsSound → (f u).TargetsSound) :
    t.TargetsSound :=
  h.commit ht fun _ hu => State.expire_keeps (P := State.TargetsSound) (fun _ dt hv => hv.elapse dt) hf hu

theorem exec {t : State} (h : s.TargetsSound) (c : Instr) (ht : exec c s = .next t) : t.TargetsSound := by
  have hconfigs : s.ret.configs.length = 4 := (State.targetsSound_iff.mp h).1
  cases c
  all_goals simp only [Machine.exec] at ht
  -- the machine bus, the Slew Counter, the Zone Table and the Grade Guide
  case frameArrival f =>
    refine h.commit ht fun u hu => ?_
    split
    · exact hu.frameArrives f
    · exact hu
  case sourceTimeoutExpiry slot =>
    exact h.commitExpire (pick := fun s => (s.slot slot.val).timer) ht fun _ hu => hu.sourceLost _
  case periodTimerExpiry b => exact h.commitExpire (pick := fun s => s.mbp.period) ht fun _ hu => hu.periodEnds b
  case transmissionAttemptEnd b => exact h.commit ht fun _ hu => hu.attemptEnds b
  case recoveryTimerExpiry => exact h.commitExpire (pick := fun s => s.mbp.recovery) ht fun _ hu => hu
  case slewStep a b =>
    refine h.commitPins ht fun u hu => ?_
    split <;> exact hu
  case indexMark =>
    refine h.commitPins ht fun u hu => ?_
    split <;> exact hu
  case slewZFall => exact h.commitPins ht fun _ hu => hu
  case gateTimerExpiry => exact h.commitExpire (pick := fun s => s.sc.gate) ht fun _ hu => hu.gateExpires
  case editTimerExpiry => exact h.commitExpire (pick := fun s => s.zt.edit) ht fun _ hu => hu.closeTable _
  case holdTimerExpiry =>
    refine h.commitExpire (pick := fun s => s.gg.hold) ht fun u hu => ?_
    split
    · exact hu.setFloor rfl
    · exact hu
  -- the Economy Controller
  case autoIdleTimerExpiry =>
    refine h.commitExpire (pick := fun s => s.ec.autoIdle) ht fun u hu => ?_
    split
    · exact hu.ecoMove _ _ _ _
    · exact hu
  case shutdownTimerLeft =>
    refine h.commit ht fun u hu => ?_
    repeat' split
    any_goals exact hu
    exact (hu.elapse _).report _
  case shutdownTimerExpiry =>
    refine h.commitExpire (pick := fun s => s.ec.shutdown) ht fun u hu => ?_
    split
    · exact hu.ecoMove _ _ _ _
    · exact hu
  case shutdownWaitExpiry =>
    refine h.commitExpire (pick := fun s => s.ec.wait) ht fun u hu => ?_
    split
    · exact hu.ecoMove _ _ _ _
    · exact hu
  case quantumCompletion =>
    refine h.commit ht fun u hu => ?_
    split
    · exact (hu.elapse _).completeQuantum
    · exact hu
  case setWorkMode i =>
    refine h.commit ht fun u hu => ?_
    split
    · exact hu.selectMode i.toNat
    · exact hu
  -- the Notice Unit and the Valve Drive
  case flashTimerExpiry lamp => exact h.commitExpire (pick := fun s => (s.nu.lamp lamp).flash) ht fun _ hu => hu
  case stretchTimerExpiry lamp => exact h.commitExpire (pick := fun s => (s.nu.lamp lamp).stretch) ht fun _ hu => hu
  case ackHead => exact h.commit ht fun _ hu => hu.ackHead
  case ackNotice n => exact h.commit ht fun _ hu => hu.ackNotice n.toNat
  case rampIntervalExpiry ch sensed =>
    exact h.commitExpire (pick := fun s => (s.vd.chan ch.val).ramp) ht fun _ hu => hu.rampExpires ch.val sensed
  case overCurrent ch sensed =>
    refine h.commit ht fun u hu => ?_
    split
    · exact hu.takeFault _ _
    · exact hu
  case supplyVoltageChange v => exact h.commitPins ht fun _ hu => hu.judgeSupply
  case downQualificationExpiry => exact h.commitExpire (pick := fun s => s.vd.downQual) ht fun _ hu => hu.supplyFalls
  case upQualificationExpiry => exact h.commitExpire (pick := fun s => s.vd.upQual) ht fun _ hu => hu.supplyRises
  case durationTimerExpiry => exact h.commitExpire (pick := fun s => s.vd.duration) ht fun _ hu => hu
  case clearValveFault ch => exact h.commit ht fun _ hu => hu.clearValveFault ch.toNat
  case driveTest ch c d => exact h.commit ht fun _ hu => hu.driveTest ch.toNat c.toNat d.toNat
  case driveTestStop => exact h.commit ht fun _ hu => hu.driveTestStop
  case serviceKeyAsserted => exact h.commitPins ht fun _ hu => hu
  case serviceKeyRelease => exact h.commitPins ht fun _ hu => hu
  -- the Controller Link and the requests on tables
  case transactionStart =>
    refine h.commitPins ht fun u hu => ?_
    split <;> exact hu
  case transactionEnd sdi => exact h.commitPins ht fun _ hu => hu
  case responseReady =>
    refine h.commit ht fun u hu => ?_
    rw [State.prepare_frame]
    exact hu
  case putEntry table i p => exact h.commit ht fun _ hu => hu.putEntry table.toNat i.toNat p
  case retireEntry table i => exact h.commit ht fun _ hu => hu.retireEntry table.toNat i.toNat
  case openZones => exact h.commit ht fun _ hu => hu.openZones
  case closeZones =>
    refine h.commit ht fun u hu => ?_
    split
    · exact hu.closeTable _
    · exact hu
  case selectTarget i => exact h.commit ht fun _ hu => hu.selectTarget i.toNat
  case serviceDone i => exact h.commit ht fun _ hu => hu.serviceDone i.toNat
  -- resets, power and CLEAR_RETAINED
  case clearRetained => exact h.commit ht fun _ hu => hu.clearRetainedRequest.answer _ _ _
  case restart =>
    cases ht
    split
    · exact start hconfigs _
    · exact h
  case resetNAsserted =>
    cases ht
    split <;> exact h
  case reset =>
    cases ht
    split
    · exact h
    · exact start (s := s.setResetLow false) hconfigs _
  case powerOn =>
    cases ht
    split <;> exact powerUp hconfigs
  case powerLoss =>
    cases ht
    exact h
  case backupDropped =>
    cases ht
    split <;> exact h
  all_goals exact h.commit ht fun _ hu => hu

/-- A step keeps the invariant: a command does, and a tick only runs timers down. -/
theorem step {t : State} (h : s.TargetsSound) (ht : step s = .next t) : t.TargetsSound := by
  unfold Machine.step at ht
  split at ht
  · cases ht
    unfold State.idle
    split
    · exact h.elapse 1
    · exact h
  · next c rest _ => exact exec (s := { s with pending := rest }) h c ht

end State.TargetsSound

end Sys2Proof.Machine

open Sys2Proof.Machine in
/-- Settles O14: an owner hands its target on in the operation that replaces its record (`State.TargetsSound.evaluateLimits`,
`State.TargetsSound.setFloor`, `State.TargetsSound.workOutTorque`), a new configuration hands it back
(`State.TargetsSound.writeChannel`), and everything else that the Valve Drive does leaves the owners' targets (`Vd.owners`). -/
theorem ownerTargetsKept : Obligations.OwnerTargetsKept := fun _ _ h ht => h.step ht
end

-- ==== Proofs of sitting 5: the direction states ====

section
/-! PROOFS. The direction states of an evaluation (05 R75 to R82): the classes of the look-ahead arcs, the record by basis, and the
way out of a STOP region. -/

namespace Sys2Proof.Machine

/-! ### Classes and direction states (R75, R77) -/

theorem dirOf_eq (c : Cls) : dirOf c = if c = .stop then .blocked else if c = .slow then .limited else .opened := by
  cases c <;> rfl

/-- STOP is the end of the class order. -/
theorem Cls.eq_stop_of_rank_le {c : Cls} (h : Cls.stop.rank ≤ c.rank) : c = .stop := by
  cases c <;> simp_all [Cls.rank]

/-! ### The class of an arc (R79, R80) -/

theorem Cls.free_worse (c : Cls) : Cls.free.worse c = c := by cases c <;> rfl

/-- The most restrictive class of a list that is not empty is in the list and no less restrictive than any other of it. -/
theorem mostRestrictive_mem {cs : List Cls} (h : cs ≠ []) :
    mostRestrictive cs ∈ cs ∧ ∀ c ∈ cs, c.rank ≤ (mostRestrictive cs).rank := by
  obtain ⟨c, cs, rfl⟩ := List.exists_cons_of_ne_nil h
  rw [mostRestrictive, List.foldl_cons, Cls.free_worse]
  exact ⟨foldl_worse_mem cs c, rank_le_foldl_worse cs c⟩

/-- `c` is the most restrictive point class of the points `at' 0` to `at' n`. -/
abbrev Cls.WorstOf (c : Cls) (pc : Nat → Cls) (n : Nat) (at' : Nat → Nat) : Prop :=
  (∀ k, k ≤ n → (pc (at' k)).rank ≤ c.rank) ∧ ∃ k, k ≤ n ∧ pc (at' k) = c

theorem arcClass_worstOf (pc : Nat → Cls) (n : Nat) (at' : Nat → Nat) :
    (arcClass pc ((List.range (n + 1)).map at')).WorstOf pc n at' := by
  obtain ⟨hmem, hworst⟩ := mostRestrictive_mem (cs := ((List.range (n + 1)).map at').map pc) (by simp)
  simpa [arcClass, Cls.WorstOf, Nat.lt_succ_iff] using And.intro hworst hmem

theorem arcClass_leftArc (pc : Nat → Cls) (phi n : Nat) :
    (arcClass pc (leftArc phi n)).WorstOf pc n (fun k => (phi + k) % 16384) := arcClass_worstOf pc n _

theorem arcClass_rightArc (pc : Nat → Cls) {phi n : Nat} (hn : n ≤ 16384) :
    (arcClass pc (rightArc phi n)).WorstOf pc n (fun k => (phi + 16384 - k) % 16384) := by
  have harc : rightArc phi n = (List.range (n + 1)).map (fun k => (phi + 16384 - k) % 16384) := by
    refine List.map_congr_left fun k hk => ?_
    rw [turn, Nat.add_sub_assoc (by have := List.mem_range.mp hk; omega)]
  rw [harc]
  exact arcClass_worstOf pc n _

/-- An arc whose first point is STOP is STOP. -/
theorem arcClass_stop {pc : Nat → Cls} {n : Nat} {at' : Nat → Nat} (h : pc (at' 0) = .stop) :
    arcClass pc ((List.range (n + 1)).map at') = .stop := by
  have hfirst := (arcClass_worstOf pc n at').1 0 (Nat.zero_le n)
  rw [h] at hfirst
  exact Cls.eq_stop_of_rank_le hfirst

/-- The stopping arc never passes half a turn (R78), and neither does a margin within its range. -/
theorem rightLengthOf_le {x : Settings} (h : x.margin ≤ 2048) (omega : Int) : rightLengthOf x omega ≤ 16384 := by
  unfold rightLengthOf stoppingArc
  split <;> omega

/-! ### The record by basis (R76 to R82) -/

section
variable {ret : Retained} {isOpen : Bool} {p : Pose} {phi : Nat}

theorem limitRecord_zonesOff (hlimit : ret.settings.zoneLimiting = false) :
    limitRecord ret isOpen p = flatRecord p.seq .zonesOff none .opened := by
  rw [limitRecord, hlimit]
  rfl

theorem limitRecord_noAngle (hlimit : ret.settings.zoneLimiting = true) (hphi : p.phi = none) :
    limitRecord ret isOpen p =
      let g := if isOpen then ret.settings.noAngleClass.worse ret.settings.holdClass else ret.settings.noAngleClass
      flatRecord p.seq .noAngle (some g) (dirOf g) := by
  rw [limitRecord, hlimit, hphi]
  rfl

theorem limitRecord_editHold (hlimit : ret.settings.zoneLimiting = true) (hphi : p.phi.isSome) :
    limitRecord ret true p =
      flatRecord p.seq .editHold (some ret.settings.holdClass) (dirOf ret.settings.holdClass) := by
  obtain ⟨phi, hphi⟩ := Option.isSome_iff_exists.mp hphi
  rw [limitRecord, hlimit, hphi]
  rfl

theorem limitRecord_ahead (hlimit : ret.settings.zoneLimiting = true) (hphi : p.phi = some phi) :
    limitRecord ret false p = aheadRecord ret p phi := by
  rw [limitRecord, hlimit, hphi]
  rfl

theorem aheadRecord_lookAhead (hphi : phi < 16384) (hstop : pointClass ret p phi ≠ .stop) :
    aheadRecord ret p phi =
      let ll := leftLengthOf ret.settings p.omega
      let rl := rightLengthOf ret.settings p.omega
      let lc := arcClass (pointClass ret p) (leftArc phi ll)
      let rc := arcClass (pointClass ret p) (rightArc phi rl)
      { seq := p.seq, basis := .lookAhead, governing := none, left := dirOf lc, right := dirOf rc, leftLength := some ll,
        rightLength := some rl, leftClass := some lc, rightClass := some rc, leftEscape := none, rightEscape := none } := by
  have hhere : phi % turn = phi := Nat.mod_eq_of_lt hphi
  rw [aheadRecord, hhere]
  exact if_neg hstop

theorem aheadRecord_escape (hphi : phi < 16384) (hstop : pointClass ret p phi = .stop) :
    aheadRecord ret p phi =
      let le := leftEscapeOf (pointClass ret p) phi
      let re := rightEscapeOf (pointClass ret p) phi
      { seq := p.seq, basis := .escape, governing := none, left := (escapeStates le re).1, right := (escapeStates le re).2,
        leftLength := some (leftLengthOf ret.settings p.omega), rightLength := some (rightLengthOf ret.settings p.omega),
        leftClass := some .stop, rightClass := some .stop, leftEscape := le, rightEscape := re } := by
  have hhere : phi % turn = phi := Nat.mod_eq_of_lt hphi
  have hleft : arcClass (pointClass ret p) (leftArc phi (leftLengthOf ret.settings p.omega)) = .stop :=
    arcClass_stop (by rwa [Nat.add_zero, hhere])
  have hright : arcClass (pointClass ret p) (rightArc phi (rightLengthOf ret.settings p.omega)) = .stop :=
    arcClass_stop (by rwa [Nat.sub_zero, Nat.add_mod_right, hhere])
  rw [aheadRecord, hhere, hleft, hright]
  exact if_pos hstop

end

/-! ### The way out of a STOP region (R81, R82) -/

theorem firstExit_eq_find? (isExit : Nat → Bool) (n from' : Nat) :
    firstExit isExit n from' = (List.range' from' n).find? isExit := by
  induction n generalizing from' with
  | zero => rfl
  | succ n ih => rw [firstExit, ih, List.range'_succ, List.find?_cons]; cases isExit from' <;> rfl

theorem mem_halfTurn {k : Nat} : k ∈ List.range' 1 8192 ↔ 1 ≤ k ∧ k ≤ 8192 := by
  rw [List.mem_range'_1]
  omega

/-- An escape distance is the least number of steps, within half a turn, to a point that is not STOP (R81). -/
theorem escape_eq_some_iff {at' : Nat → Cls} {k : Nat} :
    firstExit (fun k => at' k != .stop) 8192 1 = some k ↔
      1 ≤ k ∧ k ≤ 8192 ∧ at' k ≠ .stop ∧ ∀ j, 1 ≤ j → j < k → at' j = .stop := by
  rw [firstExit_eq_find?, List.find?_range'_eq_some, mem_halfTurn]
  simp only [bne_iff_ne, Bool.not_eq_true', bne_eq_false_iff_eq]
  tauto

theorem escape_eq_none_iff {at' : Nat → Cls} :
    firstExit (fun k => at' k != .stop) 8192 1 = none ↔ ∀ k, 1 ≤ k → k ≤ 8192 → at' k = .stop := by
  rw [firstExit_eq_find?, List.find?_eq_none]
  simp only [mem_halfTurn, bne_iff_ne, not_not, and_imp]

theorem leftEscapeOf_eq (pc : Nat → Cls) (phi : Nat) :
    leftEscapeOf pc phi = firstExit (fun k => pc ((phi + k) % 16384) != .stop) 8192 1 := rfl

theorem rightEscapeOf_eq (pc : Nat → Cls) (phi : Nat) :
    rightEscapeOf pc phi = firstExit (fun k => pc ((phi + 16384 - k) % 16384) != .stop) 8192 1 := by
  rw [rightEscapeOf, firstExit_eq_find?, firstExit_eq_find?]
  refine List.find?_congr fun k hk => ?_
  have hhalf := mem_halfTurn.mp hk
  rw [turn, Nat.add_sub_assoc (by omega)]

/-- Every point of the circle lies within half a turn of φ, to one side or the other. -/
theorem no_escape_iff {pc : Nat → Cls} {phi : Nat} (hphi : phi < 16384) (hstop : pc phi = .stop) :
    leftEscapeOf pc phi = none ∧ rightEscapeOf pc phi = none ↔ ∀ q, q < 16384 → pc q = .stop := by
  rw [leftEscapeOf_eq, rightEscapeOf_eq, escape_eq_none_iff, escape_eq_none_iff]
  constructor
  · rintro ⟨hleft, hright⟩ q hq
    obtain ⟨d, hd, rfl⟩ : ∃ d, d < 16384 ∧ (phi + d) % 16384 = q := ⟨(q + 16384 - phi) % 16384, by omega, by omega⟩
    rcases Nat.eq_zero_or_pos d with rfl | hpos
    · rwa [Nat.add_zero, Nat.mod_eq_of_lt hphi]
    by_cases hhalf : d ≤ 8192
    · exact hleft d hpos hhalf
    · have hother := hright (16384 - d) (by omega) (by omega)
      rwa [show phi + 16384 - (16384 - d) = phi + d by omega] at hother
  · exact fun h => ⟨fun k _ _ => h _ (Nat.mod_lt _ (by decide)), fun k _ _ => h _ (Nat.mod_lt _ (by decide))⟩

/-- The direction states of R82, by the four cases of the two distances. -/
theorem escapeStates_both (l r : Nat) :
    (l < r → escapeStates (some l) (some r) = (.limited, .blocked)) ∧
      (r < l → escapeStates (some l) (some r) = (.blocked, .limited)) ∧
      (l = r → escapeStates (some l) (some r) = (.limited, .limited)) := by
  refine ⟨fun h => if_pos h, fun h => ?_, fun h => ?_⟩
  · rw [escapeStates, if_neg h.not_gt, if_pos h]
  · rw [escapeStates, if_neg h.not_lt, if_neg h.not_gt]

end Sys2Proof.Machine

open Sys2Proof.Machine in
/-- Settles O27: the record of each basis is a lemma of its own (`limitRecord_zonesOff`, `limitRecord_noAngle`,
`limitRecord_editHold`, `aheadRecord_lookAhead`), and an arc's class is the worst of its points (`arcClass_leftArc`,
`arcClass_rightArc`). -/
theorem lookAheadDirections : Obligations.LookAheadDirections := by
  intro ret isOpen p hmargin hrange x lr pc given worst flat
  have hgiven (c : Cls) : dirOf c = given c := dirOf_eq c
  refine ⟨fun hlimit => limitRecord_zonesOff hlimit, fun hlimit hphi hclosed => ?_, fun hlimit hphi hopen => ?_,
    fun hlimit hphi hopen => ?_, fun phi hlimit hphi hclosed hstop => ?_⟩
  · rw [← hgiven]
    subst hclosed
    exact limitRecord_noAngle hlimit hphi
  · refine ⟨x.noAngleClass.worse x.holdClass, ?_, Cls.worse_eq_or _ _, Cls.rank_le_worse _ _⟩
    rw [← hgiven]
    subst hopen
    exact limitRecord_noAngle hlimit hphi
  · rw [← hgiven]
    subst hopen
    exact limitRecord_editHold hlimit hphi
  · intro s ll rl
    have hlt : phi < 16384 := hrange phi hphi
    refine ⟨arcClass pc (leftArc phi ll), arcClass pc (rightArc phi rl), ?_, arcClass_leftArc pc phi ll,
      arcClass_rightArc pc (rightLengthOf_le hmargin p.omega)⟩
    rw [← hgiven, ← hgiven]
    subst hclosed
    exact (limitRecord_ahead hlimit hphi).trans (aheadRecord_lookAhead hlt hstop)

open Sys2Proof.Machine in
/-- Settles O28: inside a STOP region the record is that of `aheadRecord_escape`; its distances are least ones
(`escape_eq_some_iff`, `escape_eq_none_iff`), both are absent only on a circle all STOP (`no_escape_iff`), and its states are
those of R82 (`escapeStates_both`). -/
theorem escapeFromStopRegion : Obligations.EscapeFromStopRegion := by
  intro ret p phi hlimit hphi hlt hstop x s lr left right
  have hrecord : lr = _ := (limitRecord_ahead hlimit hphi).trans (aheadRecord_escape hlt hstop)
  have hleft : lr.leftEscape = firstExit (fun k => left k != .stop) 8192 1 := congrArg LimitRecord.leftEscape hrecord
  have hright : lr.rightEscape = firstExit (fun k => right k != .stop) 8192 1 :=
    (congrArg LimitRecord.rightEscape hrecord).trans (rightEscapeOf_eq _ _)
  have hnone : lr.leftEscape = none ∧ lr.rightEscape = none ↔ ∀ q, q < 16384 → pointClass ret p q = .stop := by
    rw [hrecord]
    exact no_escape_iff hlt hstop
  have hstates : (lr.left, lr.right) = escapeStates lr.leftEscape lr.rightEscape := by rw [hrecord]
  have hdirs {a b : DirState} (h : escapeStates lr.leftEscape lr.rightEscape = (a, b)) : lr.left = a ∧ lr.right = b :=
    Prod.mk.inj (hstates.trans h)
  refine ⟨fun k => ?_, fun k => ?_, ?_, ?_, hnone, congrArg LimitRecord.seq hrecord, congrArg LimitRecord.governing hrecord,
    congrArg LimitRecord.leftLength hrecord, congrArg LimitRecord.rightLength hrecord, congrArg LimitRecord.basis hrecord,
    congrArg LimitRecord.leftClass hrecord, congrArg LimitRecord.rightClass hrecord, fun l r hl hr => ?_, fun hl hr => ?_,
    fun hl hr => ?_, fun hl hr => ?_⟩
  · rw [hleft]
    exact escape_eq_some_iff
  · rw [hright]
    exact escape_eq_some_iff
  · rw [hleft]
    exact escape_eq_none_iff
  · rw [hright]
    exact escape_eq_none_iff
  · rw [hl, hr] at hdirs
    obtain ⟨hless, hgreater, hequal⟩ := escapeStates_both l r
    exact ⟨fun h => hdirs (hless h), fun h => hdirs (hgreater h), fun h => hdirs (hequal h)⟩
  · obtain ⟨l, hl⟩ := Option.isSome_iff_exists.mp hl
    exact hdirs (by rw [hl, hr]; rfl)
  · obtain ⟨r, hr⟩ := Option.isSome_iff_exists.mp hr
    exact hdirs (by rw [hl, hr]; rfl)
  · exact hdirs (by rw [hl, hr]; rfl)
end

-- ==== Proofs of sitting 6: the floor record and the Guidance record ====

section
/-! PROOFS. One evaluation of the Grade Guide: the least distance over the applicable floors (06 R89, R98), what becomes of the
record without a COMPLETE pose (R99), and the line of R97's table that fits. -/

namespace Sys2Proof.Machine

/-! ### Poses -/

theorem Pose.complete_eq_some {p : Pose} {phi : Nat} {x y z : Int} (hq : p.quality = .complete) (hphi : p.phi = some phi)
    (hx : p.x = some x) (hy : p.y = some y) (hz : p.z = some z) : p.complete = some (phi, x, y, z) := by
  rw [Pose.complete, hq, hphi, hx, hy, hz]

theorem Pose.complete_eq_none {p : Pose} (hq : p.quality ≠ .complete) : p.complete = none := by
  unfold Pose.complete
  split
  · exact absurd ‹_› hq
  · rfl

/-! ### The least floor (R98) -/

theorem leastFloor_isSome {l : List (Nat × Int)} (h : l ≠ []) : (leastFloor l).isSome := by
  obtain ⟨a, l, rfl⟩ := List.exists_cons_of_ne_nil h
  unfold leastFloor
  repeat' split
  all_goals rfl

/-- In a list in index order the distance found is the least one, at the lowest index that gives it. -/
theorem leastFloor_least {l : List (Nat × Int)} (hl : l.Pairwise (·.1 < ·.1)) {m : Nat × Int} (hm : leastFloor l = some m) :
    m ∈ l ∧ ∀ b ∈ l, m.2 ≤ b.2 ∧ (b.2 = m.2 → m.1 ≤ b.1) := by
  induction l generalizing m with
  | nil => cases hm
  | cons a rest ih =>
    obtain ⟨hfirst, hrest⟩ := List.pairwise_cons.mp hl
    rw [leastFloor] at hm
    cases hleast : leastFloor rest with
    | none =>
      have hnil : rest = [] := by
        by_contra hne
        simpa [hleast] using leastFloor_isSome hne
      rw [hleast] at hm
      cases hm
      simp [hnil]
    | some n =>
      obtain ⟨hmem, hn⟩ := ih hrest hleast
      simp only [hleast] at hm
      split at hm
      · next hless =>
        cases hm
        exact ⟨List.mem_cons_of_mem a hmem, List.forall_mem_cons.mpr ⟨⟨hless.le, fun heq => absurd heq hless.ne'⟩, hn⟩⟩
      · next hless =>
        cases hm
        refine ⟨List.mem_cons_self, List.forall_mem_cons.mpr ⟨⟨le_rfl, fun _ => le_rfl⟩, fun b hb => ?_⟩⟩
        exact ⟨(not_lt.mp hless).trans (hn b hb).1, fun _ => (hfirst b hb).le⟩

/-! ### The applicable floors (R89) -/

/-- The entry at an index is an ACTIVE FLOOR whose arc contains φ (R89). -/
abbrev Retained.FloorAt (ret : Retained) (phi i : Nat) (f : Surface) : Prop :=
  ret.surfaces.getD i none = some f ∧ f.active = true ∧ f.kind = .floor ∧ ((phi : Int) - f.start) % 16384 < f.width

/-- The distance from a surface, where it is an applicable floor (R89). -/
def Surface.floorDistance (phi : Nat) (x y z : Int) (f : Surface) : Option Int :=
  if f.active && f.kind == .floor && arcContains f.start f.width phi then some (surfaceDistance f x y z) else none

section
variable {ret : Retained} {phi : Nat} {x y z : Int}

theorem Surface.floorDistance_eq_some_iff {f : Surface} {d : Int} :
    f.floorDistance phi x y z = some d ↔
      (f.active = true ∧ f.kind = .floor ∧ ((phi : Int) - f.start) % 16384 < f.width) ∧ surfaceDistance f x y z = d := by
  rw [Surface.floorDistance, Option.ite_none_right_eq_some, Option.some.injEq, Bool.and_eq_true, Bool.and_eq_true, beq_iff_eq,
    arcContains_iff, and_assoc (a := f.active = true)]

theorem floorDistances_eq :
    floorDistances ret phi x y z = (List.range ret.surfaces.length).filterMap fun i =>
      ((ret.surface i).bind (Surface.floorDistance phi x y z)).map fun d => (i, d) := by
  refine List.filterMap_congr fun i _ => ?_
  cases ret.surface i with
  | none => rfl
  | some f =>
    rw [Option.bind_some, Surface.floorDistance, apply_ite (Option.map fun d => (i, d))]
    rfl

theorem Retained.FloorAt.lt_length {i : Nat} {f : Surface} (h : ret.FloorAt phi i f) : i < ret.surfaces.length := by
  obtain ⟨hentry, -⟩ := h
  by_contra hout
  rw [List.getD_eq_default _ _ (not_lt.mp hout)] at hentry
  cases hentry

theorem mem_floorDistances {a : Nat × Int} :
    a ∈ floorDistances ret phi x y z ↔ ∃ f, ret.FloorAt phi a.1 f ∧ surfaceDistance f x y z = a.2 := by
  obtain ⟨i, d⟩ := a
  simp only [floorDistances_eq, List.mem_filterMap, Option.map_eq_some_iff, Option.bind_eq_some_iff,
    Surface.floorDistance_eq_some_iff, Prod.mk.injEq, List.mem_range]
  constructor
  · rintro ⟨_, -, _, ⟨f, hentry, happlies, hd⟩, rfl, rfl⟩
    exact ⟨f, ⟨hentry, happlies⟩, hd⟩
  · rintro ⟨f, hf, hd⟩
    exact ⟨i, hf.lt_length, d, ⟨f, hf.1, hf.2, hd⟩, rfl, rfl⟩

theorem floorDistances_pairwise : (floorDistances ret phi x y z).Pairwise (·.1 < ·.1) := by
  rw [floorDistances_eq]
  refine List.Pairwise.filterMap _ (fun i j hij a ha b hb => ?_) List.pairwise_lt_range
  obtain ⟨_, -, rfl⟩ := Option.map_eq_some_iff.mp ha
  obtain ⟨_, -, rfl⟩ := Option.map_eq_some_iff.mp hb
  exact hij

/-! ### The record of a COMPLETE pose (R98) -/

theorem floorMeasured_none (h : ¬∃ i f, ret.FloorAt phi i f) : floorMeasured ret phi x y z = startFloor := by
  have hnil : floorDistances ret phi x y z = [] := by
    refine List.eq_nil_iff_forall_not_mem.mpr fun a ha => ?_
    obtain ⟨f, hf, -⟩ := mem_floorDistances.mp ha
    exact h ⟨a.1, f, hf⟩
  rw [floorMeasured, hnil]
  rfl

/-- The record that the distance from the floor at an index gives. -/
def floorRecordAt (ret : Retained) (i : Nat) (dF : Int) : FloorRecord :=
  let band := ret.settings.floorBand
  { state := floorStateOf band dF, held := none, index := some i, dF := some dF, band := some band
    target := floorTarget (ret.config 2).imax (floorStateOf band dF) (some band) (some dF) }

/-- Where a floor applies, the record is that of the least distance, at the lowest index that gives it. -/
theorem floorMeasured_least (x y z : Int) (h : ∃ i f, ret.FloorAt phi i f) :
    ∃ i f, ret.FloorAt phi i f ∧
      (∀ j g, ret.FloorAt phi j g → surfaceDistance f x y z ≤ surfaceDistance g x y z ∧
        (surfaceDistance g x y z = surfaceDistance f x y z → i ≤ j)) ∧
      floorMeasured ret phi x y z = floorRecordAt ret i (surfaceDistance f x y z) := by
  obtain ⟨i, f, hf⟩ := h
  have hmeasured : (i, surfaceDistance f x y z) ∈ floorDistances ret phi x y z := mem_floorDistances.mpr ⟨f, hf, rfl⟩
  obtain ⟨m, hm⟩ := Option.isSome_iff_exists.mp
    (leastFloor_isSome (List.ne_nil_of_mem hmeasured))
  obtain ⟨hmem, hleast⟩ := leastFloor_least floorDistances_pairwise hm
  obtain ⟨g, hg, hd⟩ := mem_floorDistances.mp hmem
  refine ⟨m.1, g, hg, fun j k hk => ?_, ?_⟩
  · rw [hd]
    exact hleast (j, surfaceDistance k x y z) (mem_floorDistances.mpr ⟨k, hk, rfl⟩)
  · rw [floorMeasured, hm, hd]
    rfl

end

theorem rndDiv_nonneg {n : Int} (h : 0 ≤ n) (d : Nat) : 0 ≤ rndDiv n d := by
  rw [rndDiv, if_pos h]
  exact Int.natCast_nonneg _

theorem nearTarget_cast (imax : Nat) {band : Nat} {dF : Int} (h : dF < band) :
    (nearTarget imax band dF : Int) = rndDiv (imax * (band - dF)) band :=
  Int.toNat_of_nonneg (rndDiv_nonneg (mul_nonneg (Int.natCast_nonneg _) (by omega)) _)

section
variable (ret : Retained) (i : Nat) {dF : Int}

theorem floorRecordAt_atFloor (h : dF ≤ 0) :
    (floorRecordAt ret i dF).state = .atFloor ∧ (floorRecordAt ret i dF).target = (ret.config 2).imax := by
  simp [floorRecordAt, floorStateOf, h, floorTarget]

theorem floorRecordAt_near (hpos : 0 < dF) (h : dF < ret.settings.floorBand) :
    (floorRecordAt ret i dF).state = .near ∧
      ((floorRecordAt ret i dF).target : Int) =
        rndDiv ((ret.config 2).imax * (ret.settings.floorBand - dF)) ret.settings.floorBand := by
  have hstate : floorStateOf ret.settings.floorBand dF = .near := by rw [floorStateOf, if_neg (by omega), if_pos h]
  rw [floorRecordAt, hstate]
  exact ⟨rfl, nearTarget_cast _ h⟩

theorem floorRecordAt_clear (hpos : 0 < dF) (h : (ret.settings.floorBand : Int) ≤ dF) :
    (floorRecordAt ret i dF).state = .clear ∧ (floorRecordAt ret i dF).target = 0 := by
  have hstate : floorStateOf ret.settings.floorBand dF = .clear := by
    rw [floorStateOf, if_neg (by omega), if_neg (by omega)]
  rw [floorRecordAt, hstate]
  exact ⟨rfl, rfl⟩

end

/-! ### The record without a COMPLETE pose (R99) -/

theorem floorExists_iff {ret : Retained} :
    floorExists ret = true ↔ ∃ f, some f ∈ ret.surfaces ∧ f.active = true ∧ f.kind = .floor := by
  rw [floorExists, List.any_eq_true]
  constructor
  · rintro ⟨_ | f, hmem, hfloor⟩
    · cases hfloor
    · exact ⟨f, hmem, by simpa using hfloor⟩
  · rintro ⟨f, hmem, hfloor⟩
    exact ⟨some f, hmem, by simpa using hfloor⟩

section
variable {ret : Retained} {p : Pose} (f : FloorRecord) (hold : Timer)

theorem floorNext_complete {phi : Nat} {x y z : Int} (h : p.complete = some (phi, x, y, z)) :
    floorNext ret p f = floorMeasured ret phi x y z ∧ holdNext ret p f hold = none := by
  rw [floorNext, holdNext, h]
  exact ⟨rfl, rfl⟩

variable (hp : p.complete = none)
include hp

theorem floorNext_noFloor (h : ¬floorExists ret = true) :
    floorNext ret p f = startFloor ∧ holdNext ret p f hold = none := by
  rw [floorNext, holdNext, hp]
  exact ⟨if_pos (by simpa using h), if_pos (by simpa using h)⟩

variable (h : floorExists ret = true)
include h

theorem floorNext_enters (hstate : f.state = .none ∨ f.state = .clear ∨ f.state = .near ∨ f.state = .atFloor) :
    floorNext ret p f = { f with state := .holding, held := some f.state } ∧ holdNext ret p f hold = some 500 := by
  rw [floorNext, holdNext, hp, h]
  rcases hstate with hstate | hstate | hstate | hstate <;> rw [hstate] <;> exact ⟨rfl, rfl⟩

theorem floorNext_holding (hstate : f.state = .holding) : floorNext ret p f = f ∧ holdNext ret p f hold = hold := by
  rw [floorNext, holdNext, hp, h, hstate]
  exact ⟨rfl, rfl⟩

theorem floorNext_unavailable (hstate : f.state = .unavailable) :
    floorNext ret p f = f ∧ holdNext ret p f hold = none := by
  rw [floorNext, holdNext, hp, h, hstate]
  exact ⟨rfl, rfl⟩

end

/-! ### One evaluation (R96, R101, R102) -/

theorem State.setFloor_eq (s : State) (f : FloorRecord) (hold : Timer) :
    s.setFloor f hold = { s with
      gg := { s.gg with floor := f, hold := hold }
      vd := s.vd.hand 2 f.target
      inbox := s.inbox ++ floorConditions f } := by
  rw [State.setFloor, floorReports_eq]

/-! ### The Guidance record (R97) -/

section
variable {ret : Retained} {p : Pose} {i : Nat} {f : Surface} {phi : Nat} {x y z : Int}

theorem guidanceOf_seq_target (ret : Retained) (p : Pose) :
    (guidanceOf ret p).seq = p.seq ∧ (guidanceOf ret p).target = ret.selection := by
  unfold guidanceOf
  repeat' split
  all_goals exact ⟨rfl, by simp_all⟩

theorem guidanceOf_noTarget (h : ret.selection = none) :
    guidanceOf ret p = { seq := p.seq, target := none, state := .noTarget, d := none } := by
  rw [guidanceOf, h]

theorem guidanceOf_noPose (h : ret.selection = some i) (hp : p.complete = none) :
    guidanceOf ret p = { seq := p.seq, target := some i, state := .noPose, d := none } := by
  rw [guidanceOf, h, hp]

/-- A COMPLETE pose is measured against the target where its angle lies in the target's arc. -/
theorem guidanceOf_target (h : ret.selection = some i) (hf : ret.surfaces.getD i none = some f)
    (hp : p.complete = some (phi, x, y, z)) :
    guidanceOf ret p =
      if ((phi : Int) - f.start) % 16384 < f.width then
        { seq := p.seq, target := some i, state := gradeState ret.settings.onGradeBand (surfaceDistance f x y z)
          d := some (surfaceDistance f x y z) }
      else { seq := p.seq, target := some i, state := .outside, d := none } := by
  have hentry : ret.surface i = some f := hf
  simp only [guidanceOf, h, hp, hentry]
  exact if_congr (arcContains_iff _ _ _) rfl rfl

theorem gradeState_above {band : Nat} {d : Int} (h : band < d) : gradeState band d = .above := if_pos h

theorem gradeState_onGrade {band : Nat} {d : Int} (hlo : -(band : Int) ≤ d) (hhi : d ≤ band) : gradeState band d = .onGrade := by
  rw [gradeState, if_neg (by omega), if_neg (by omega)]

theorem gradeState_below {band : Nat} {d : Int} (h : d < -(band : Int)) : gradeState band d = .below := by
  rw [gradeState, if_neg (by omega), if_pos h]

end

end Sys2Proof.Machine

open Sys2Proof.Machine in
/-- Settles O30: a COMPLETE pose gives the record of the least distance (`floorMeasured_least`, the list of distances being in
index order), any other pose keeps or holds the record (`floorNext_enters` and its siblings), and an evaluation puts the record in
place (`State.setFloor_eq`). -/
theorem floorDecidesLeast : Obligations.FloorDecidesLeast := by
  refine ⟨?_, ?_, fun s => State.setFloor_eq _ _ _⟩
  · intro ret p old hold phi x y z hq hphi hx hy hz f band imax applies distance
    obtain ⟨hrecord, hhold⟩ := floorNext_complete (ret := ret) old hold (Pose.complete_eq_some hq hphi hx hy hz)
    refine ⟨hhold, fun hnone => hrecord.trans (floorMeasured_none hnone), fun hany => ?_⟩
    obtain ⟨i, g, hg, hleast, hmeasured⟩ := floorMeasured_least x y z hany
    have hf : f = floorRecordAt ret i (distance g) := hrecord.trans hmeasured
    rw [hf]
    exact ⟨i, g, hg, hleast, rfl, rfl, rfl, rfl, fun h => floorRecordAt_atFloor ret i h,
      fun hpos h => floorRecordAt_near ret i hpos h, fun hpos h => floorRecordAt_clear ret i hpos h⟩
  · intro ret p old hold hq f h exists'
    have hp := Pose.complete_eq_none hq
    have hexists : floorExists ret = true ↔ exists' := floorExists_iff
    rw [← hexists]
    exact ⟨fun hnone => floorNext_noFloor old hold hp hnone, fun hany hstate => floorNext_enters old hold hp hany hstate,
      fun hany hstate => floorNext_holding old hold hp hany hstate,
      fun hany hstate => floorNext_unavailable old hold hp hany hstate⟩

open Sys2Proof.Machine in
/-- Settles O31: each line of R97's table is a lemma (`guidanceOf_noTarget`, `guidanceOf_noPose`, `guidanceOf_target`), and the
band decides among the last three (`gradeState_above`, `gradeState_onGrade`, `gradeState_below`). -/
theorem guidanceFirstFit : Obligations.GuidanceFirstFit := by
  intro ret p g band
  obtain ⟨hseq, htarget⟩ := guidanceOf_seq_target ret p
  refine ⟨hseq, htarget, fun hnone => ?_, fun i hi hq => ?_, fun i f hi hf phi x y z hq hphi hx hy hz => ?_⟩
  · have hg : g = _ := guidanceOf_noTarget hnone
    rw [hg]
    exact ⟨rfl, rfl⟩
  · have hg : g = _ := guidanceOf_noPose hi (Pose.complete_eq_none hq)
    rw [hg]
    exact ⟨rfl, rfl⟩
  · intro d
    have hg : g = _ := guidanceOf_target hi hf (Pose.complete_eq_some hq hphi hx hy hz)
    refine ⟨fun hout => ?_, fun hin => ?_⟩
    · rw [hg, if_neg hout]
      exact ⟨rfl, rfl⟩
    · rw [hg, if_pos hin]
      exact ⟨rfl, fun h => gradeState_above h, fun hlo hhi => gradeState_onGrade hlo hhi, fun h => gradeState_below h⟩
end

-- ==== Proofs of sitting 6: the Surface Table and the target selection ====

section
/-! PROOFS. Surfaces on the wire (11 R182, Table 11-4), the requests on SURFACES, SELECT_TARGET and the hold's expiry (06 R91 to
R96, R100). -/

namespace Sys2Proof.Machine

/-! ### Surfaces on the wire -/

theorem surfaceKindOf_eq_some_iff {n : Nat} {k : SurfaceKind} : surfaceKindOf n = some k ↔ n = k.code := by
  unfold surfaceKindOf SurfaceKind.code
  split <;> cases k <;> simp_all

/-- The surface that the fields of a payload spell, given what its codes stand for. -/
def surfaceFields (p : List Byte) (active : Bool) (kind : SurfaceKind) : Surface :=
  { active, kind, h0 := fieldInt p 2 2, sx := fieldInt p 4 2, sy := fieldInt p 6 2, start := fieldNat p 8 2
    width := fieldNat p 10 2, tag := fieldNat p 12 2 }

theorem Surface.payload_length (f : Surface) : f.payload.length = 14 := by
  simp only [Surface.payload, List.length_append, toBe_length, toBeInt_length]

/-- The fields of a surface's payload stand at the offsets of Table 11-4. -/
theorem field_surfacePayload (f : Surface) :
    field f.payload 0 1 = toBe 1 (activeCode f.active) ∧ field f.payload 1 1 = toBe 1 f.kind.code ∧
      field f.payload 2 2 = toBeInt 2 f.h0 ∧ field f.payload 4 2 = toBeInt 2 f.sx ∧ field f.payload 6 2 = toBeInt 2 f.sy ∧
      field f.payload 8 2 = toBe 2 f.start ∧ field f.payload 10 2 = toBe 2 f.width ∧ field f.payload 12 2 = toBe 2 f.tag := by
  simp only [Surface.payload, activeCode, field, toBeInt, toBe, List.cons_append, List.nil_append, List.drop_zero,
    List.drop_succ_cons, List.take_succ_cons, List.take_zero, and_self]

/-- A sound surface is read back from its payload. -/
theorem surfaceFields_payload {f : Surface} (h : f.Sound) :
    fieldNat f.payload 0 1 = activeCode f.active ∧ fieldNat f.payload 1 1 = f.kind.code ∧
      surfaceFields f.payload f.active f.kind = f := by
  obtain ⟨hh, hh', hx, hx', hy, hy', hstart, -, hwidth, htag⟩ := h
  obtain ⟨hfactive, hfkind, hfh, hfx, hfy, hfstart, hfwidth, hftag⟩ := field_surfacePayload f
  refine ⟨?_, ?_, ?_⟩
  · rw [fieldNat, hfactive, beNat_toBe (by cases f.active <;> decide)]
  · rw [fieldNat, hfkind, beNat_toBe (by cases f.kind <;> decide)]
  · simp only [surfaceFields, fieldInt, fieldNat, hfh, hfx, hfy, hfstart, hfwidth, hftag]
    rw [beInt_toBeInt (by norm_num; omega) (by norm_num; omega), beInt_toBeInt (by norm_num; omega) (by norm_num; omega),
      beInt_toBeInt (by norm_num; omega) (by norm_num; omega), beNat_toBe (by norm_num; omega), beNat_toBe (by norm_num; omega),
      beNat_toBe (by norm_num; omega)]

/-- A payload of fourteen bytes is the one of the surface that its fields spell. -/
theorem payload_surfaceFields {p : List Byte} (hp : p.length = 14) {active : Bool} {kind : SurfaceKind}
    (hactive : fieldNat p 0 1 = activeCode active) (hkind : fieldNat p 1 1 = kind.code) :
    (surfaceFields p active kind).payload = p := by
  change toBe 1 (activeCode active) ++ toBe 1 kind.code ++ toBeInt 2 (fieldInt p 2 2) ++ toBeInt 2 (fieldInt p 4 2) ++
    toBeInt 2 (fieldInt p 6 2) ++ toBe 2 (fieldNat p 8 2) ++ toBe 2 (fieldNat p 10 2) ++ toBe 2 (fieldNat p 12 2) = p
  rw [← hactive, ← hkind]
  simp (disch := omega) only [toBe_fieldNat, toBeInt_fieldInt]
  calc field p 0 1 ++ field p 1 1 ++ field p 2 2 ++ field p 4 2 ++ field p 6 2 ++ field p 8 2 ++ field p 10 2 ++ field p 12 2
      = p.take (12 + 2) := by
        rw [take_field p 12 2, take_field p 10 2, take_field p 8 2, take_field p 6 2, take_field p 4 2, take_field p 2 2,
          take_field p 1 1]
        rfl
    _ = p := List.take_of_length_le (by omega)

theorem surfaceOf_eq_some_iff {p : List Byte} {f : Surface} :
    surfaceOf p = some f ↔
      fieldNat p 0 1 = activeCode f.active ∧ fieldNat p 1 1 = f.kind.code ∧ surfaceFields p f.active f.kind = f ∧ f.Sound := by
  rw [← activeOf_eq_some_iff, ← surfaceKindOf_eq_some_iff]
  unfold surfaceOf
  split
  · next active kind hactive hkind =>
    rw [hactive, hkind, Option.some.injEq, Option.some.injEq]
    change (if (surfaceFields p active kind).Sound then some (surfaceFields p active kind) else none) = some f ↔ _
    rw [Option.ite_none_right_eq_some, Option.some.injEq]
    constructor
    · rintro ⟨hsound, rfl⟩
      exact ⟨rfl, rfl, rfl, hsound⟩
    · rintro ⟨rfl, rfl, hf, hsound⟩
      exact ⟨hf.symm ▸ hsound, hf⟩
  · next hnone =>
    simp only [reduceCtorEq, false_iff]
    rintro ⟨hactive, hkind, -⟩
    exact hnone _ _ hactive hkind

theorem surfaceOf_payload {f : Surface} (h : f.Sound) : surfaceOf f.payload = some f := by
  obtain ⟨hactive, hkind, hfields⟩ := surfaceFields_payload h
  exact surfaceOf_eq_some_iff.mpr ⟨hactive, hkind, hfields, h⟩

/-- A payload that no surface passing the checks has is refused. -/
theorem surfaceOf_none {p : List Byte} (hp : p.length = 14) (h : ∀ f : Surface, f.Sound → p ≠ f.payload) :
    surfaceOf p = none := by
  refine Option.eq_none_iff_forall_ne_some.mpr fun f hf => ?_
  obtain ⟨hactive, hkind, hfields, hsound⟩ := surfaceOf_eq_some_iff.mp hf
  have hpayload := payload_surfaceFields hp hactive hkind
  rw [hfields] at hpayload
  exact h f hsound hpayload.symm

/-! ### Which entries can be selected (R94, R95) -/

theorem selectable_iff {e : Option Surface} : selectable e = true ↔ ∃ f, e = some f ∧ f.active = true ∧ f.kind = .grade := by
  cases e <;> simp [selectable]

/-! ### The requests -/

section
variable {s : State}

/-- The selection goes with an entry that stops being an ACTIVE GRADE surface (R95). -/
theorem State.writeSurface_eq (s : State) (k : Nat) {e : Option Surface} {kept : Prop} [Decidable kept]
    (h : selectable e = true ↔ kept) :
    s.writeSurface k e = State.evaluateGrade { s with ret := { s.ret with
      surfaces := s.ret.surfaces.set k e
      selection := if s.ret.selection = some k ∧ ¬kept then none else s.ret.selection } } := by
  have hlost : selectable e = false ↔ ¬kept := by rw [← h, Bool.not_eq_true]
  simp only [State.writeSurface, Retained.setSurface, hlost]

theorem State.putEntry_surfaces (s : State) (i : Nat) {p : List Byte} (hp : p.length = 14) :
    s.putEntry 3 i p = s.putSurface i p := by
  simp [State.putEntry, tableRefused, putLength, hp]

theorem State.putSurface_badIndex {i : Nat} (p : List Byte) (hi : 8 ≤ i ∧ i ≠ 255) : s.putSurface i p = (s, .badIndex, []) :=
  if_pos hi

theorem State.putSurface_badValue {i : Nat} {p : List Byte} (hi : i < 8 ∨ i = 255) (hnone : surfaceOf p = none) :
    s.putSurface i p = (s, .badValue, []) := by
  rw [State.putSurface, hnone]
  exact if_neg (by rw [anyIndex]; omega)

theorem State.putSurface_full {p : List Byte} {f : Surface} (hf : surfaceOf p = some f)
    (hplace : putPlace s.ret.surfaces 255 = none) : s.putSurface 255 p = (s, .full, []) := by
  rw [State.putSurface, hf, hplace]
  rfl

theorem State.putSurface_writes {i k : Nat} {p : List Byte} {f : Surface} (hi : i < 8 ∨ i = 255) (hf : surfaceOf p = some f)
    (hplace : putPlace s.ret.surfaces i = some k) :
    s.putSurface i p = (s.writeSurface k (some f), .ok, indexWritten k) := by
  rw [State.putSurface, hf, hplace]
  exact if_neg (by rw [anyIndex]; omega)

theorem State.retireSurface_badIndex {i : Nat} (hi : 8 ≤ i) : s.retireSurface i = (s, .badIndex, []) := if_pos hi

theorem State.retireSurface_empty {i : Nat} (hi : i < 8) (hempty : s.ret.surface i = none) :
    s.retireSurface i = (s, .empty, []) := by
  rw [State.retireSurface, hempty]
  exact if_neg (by omega)

theorem State.retireSurface_writes {i : Nat} (hi : i < 8) {f : Surface} (hf : s.ret.surface i = some f) :
    s.retireSurface i = (s.writeSurface i none, .ok, []) := by
  rw [State.retireSurface, hf]
  exact if_neg (by omega)

theorem State.selectTarget_none : s.selectTarget 254 = (s.setSelection none, .ok) := rfl

theorem State.selectTarget_badIndex {i : Nat} (hi : 8 ≤ i) (hne : i ≠ 254) : s.selectTarget i = (s, .badIndex) := by
  rw [State.selectTarget, targetNone, if_neg hne, if_pos hi]

theorem State.selectTarget_entry {i : Nat} (hi : i < 8) :
    s.selectTarget i = if selectable (s.ret.surface i) then (s.setSelection (some i), .ok) else (s, .state) := by
  rw [State.selectTarget, if_neg (by rw [targetNone]; omega), if_neg (by omega)]

theorem exec_selectTarget (hrun : s.phase = .running) {i : Byte} {t : State} {r : ResultCode}
    (h : s.selectTarget i.toNat = (t, r)) : exec (.selectTarget i) s = .next (t.answer 7 r []).deliver := by
  refine (State.commit_running hrun fun s => (s.selectTarget i.toNat).1.answer 7 (s.selectTarget i.toNat).2 []).trans ?_
  rw [h]

theorem exec_selectTarget_refused (h : s.Ready) {i : Byte} {r : ResultCode} (hselect : s.selectTarget i.toNat = (s, r)) :
    exec (.selectTarget i) s = .next (s.answer 7 r []) :=
  (exec_selectTarget h.1 hselect).trans (congrArg Host.Outcome.next (State.deliver_answer_none h.2 _ _ _))

/-- The hold that runs out leaves no floor record but its UNAVAILABLE (R100). -/
theorem exec_holdTimerExpiry (hrun : s.phase = .running) {left : Nat} (hleft : s.gg.hold = some left)
    (hstate : s.gg.floor.state = .holding) :
    exec .holdTimerExpiry s = .next ((s.elapse left).setFloor floorUnavailable none).deliver := by
  refine (State.commit_expire hrun (pick := fun s => s.gg.hold) hleft _).trans ?_
  exact congrArg (fun t : State => Host.Outcome.next t.deliver) (if_pos hstate)

end

end Sys2Proof.Machine

open Sys2Proof Sys2Proof.Machine in
/-- Settles O43: a payload reads back as its surface (`surfaceOf_payload`) and one that is refused is none's (`surfaceOf_none`);
the selection follows a written entry (`State.writeSurface_eq`); and each outcome of the requests is a lemma of its own. -/
theorem surfacesAndTarget : Obligations.SurfacesAndTarget := by
  intro s i h wrote chosen
  have hany : i = 255 → i.toNat = 255 := fun hi => by rw [hi]; rfl
  have hnotAny {n : Nat} (hn : n < 256) : i ≠ BitVec.ofNat 8 n → i.toNat ≠ n := fun hne heq =>
    hne (BitVec.eq_of_toNat_eq (by rw [heq, BitVec.toNat_ofNat, Nat.mod_eq_of_lt hn]))
  have hkeeps (f : Surface) : selectable (some f) = true ↔ f.active = true ∧ f.kind = .grade := by simp [selectable]
  refine ⟨fun f hf => ⟨fun hi => ?_, fun k hi hk hempty hbefore => ?_, fun hi hfull => ?_⟩,
    fun p hp => ⟨fun hi hne => ?_, fun hi hnone => ?_⟩, fun f hi hf => ?_, fun hi hempty => ?_, fun hi => ?_,
    fun f hi hf hactive hkind => ?_, fun hi hnone => ?_, fun hi => ?_, fun hi hne => ?_, fun left hleft hstate => ?_⟩
  · have hput := State.putSurface_writes (.inl hi) (surfaceOf_payload hf) (putPlace_index s.ret.surfaces (by omega))
    rw [indexWritten_toNat, State.writeSurface_eq s _ (hkeeps f)] at hput
    exact exec_putEntry h.1 ((s.putEntry_surfaces _ f.payload_length).trans hput)
  · have hput := State.putSurface_writes (.inr rfl) (surfaceOf_payload hf) (putPlace_lowest hk hempty hbefore)
    rw [← hany hi, State.writeSurface_eq s _ (hkeeps f)] at hput
    exact exec_putEntry h.1 ((s.putEntry_surfaces _ f.payload_length).trans hput)
  · have hput := State.putSurface_full (surfaceOf_payload hf) (putPlace_full hfull)
    rw [← hany hi] at hput
    exact exec_putEntry_refused h ((s.putEntry_surfaces _ f.payload_length).trans hput)
  · have hput := State.putSurface_badIndex (s := s) p ⟨hi, hnotAny (by decide) hne⟩
    exact exec_putEntry_refused h ((s.putEntry_surfaces _ hp).trans hput)
  · have hput := State.putSurface_badValue (s := s) (hi.imp id hany) (surfaceOf_none hp hnone)
    exact exec_putEntry_refused h ((s.putEntry_surfaces _ hp).trans hput)
  · have hretire := State.retireSurface_writes hi hf
    rw [State.writeSurface_eq s _ (kept := False) (by simp [selectable])] at hretire
    exact exec_retireEntry h.1 hretire
  · exact exec_retireEntry_refused h (State.retireSurface_empty hi hempty)
  · exact exec_retireEntry_refused h (State.retireSurface_badIndex hi)
  · have hselectable : selectable (s.ret.surface i.toNat) = true := selectable_iff.mpr ⟨f, hf, hactive, hkind⟩
    exact exec_selectTarget h.1 ((State.selectTarget_entry hi).trans (if_pos hselectable))
  · have hselectable : ¬selectable (s.ret.surface i.toNat) = true := fun hsel => by
      obtain ⟨f, hf, hgrade⟩ := selectable_iff.mp hsel
      exact hnone f hf hgrade
    exact exec_selectTarget_refused h ((State.selectTarget_entry hi).trans (if_neg hselectable))
  · subst hi
    exact exec_selectTarget h.1 State.selectTarget_none
  · exact exec_selectTarget_refused h (State.selectTarget_badIndex hi (hnotAny (by decide) hne))
  · rw [exec_holdTimerExpiry h.1 hleft hstate, State.setFloor_eq, State.elapse_inbox, h.2]
    rfl
end

-- ==== Proofs of sitting 6: the configurations of the channels ====

section
/-! PROOFS. PUT_ENTRY and RETIRE_ENTRY on VALVE_CHANNELS (10 R160, R161): the configuration that a payload gives, and what its
write does to the channel, to a drive test and to the owner's target (06 R101). -/

namespace Sys2Proof.Machine

/-! ### The configuration that a payload gives (R160) -/

theorem clampNat_natCast {lo hi : Nat} (h : lo ≤ hi) (n : Nat) : clampNat lo hi n = max lo (min hi n) := by
  have := clampNat_cast h n
  omega

/-- The payload of a PUT_ENTRY on VALVE_CHANNELS (11 Table 11-4). -/
def channelPayload (imax start slow up down amp freq mask : Nat) : List Byte :=
  toBe 2 imax ++ toBe 2 start ++ toBe 2 slow ++ toBe 2 up ++ toBe 2 down ++ toBe 2 amp ++ toBe 2 freq ++ toBe 1 mask

/-- The figures of a payload in the ranges of R160: Imax first, then the currents within it. -/
def clampedConfig (ch imax start slow up down amp freq mask : Nat) : ChannelConfig :=
  let top := max 100 (min 1500 imax)
  { imax := top, start := min top start, slow := if ch < 2 then some (min top slow) else none
    rampUp := max 1 (min 200 up), rampDown := max 1 (min 200 down), ditherAmp := min 200 amp
    ditherFreq := max 50 (min 250 freq), mask := decide (mask ≠ 0) }

section
variable {imax start slow up down amp freq mask : Nat}

theorem channelPayload_length : (channelPayload imax start slow up down amp freq mask).length = 15 := by
  simp only [channelPayload, List.length_append, toBe_length]

/-- The fields of the payload stand at the offsets of Table 11-4. -/
theorem field_channelPayload :
    let p := channelPayload imax start slow up down amp freq mask
    field p 0 2 = toBe 2 imax ∧ field p 2 2 = toBe 2 start ∧ field p 4 2 = toBe 2 slow ∧ field p 6 2 = toBe 2 up ∧
      field p 8 2 = toBe 2 down ∧ field p 10 2 = toBe 2 amp ∧ field p 12 2 = toBe 2 freq ∧ field p 14 1 = toBe 1 mask := by
  simp only [channelPayload, field, toBe, List.cons_append, List.nil_append, List.drop_zero, List.drop_succ_cons,
    List.take_succ_cons, List.take_zero, and_self]

variable (himax : imax < 65536) (hstart : start < 65536) (hslow : slow < 65536) (hup : up < 65536) (hdown : down < 65536)
  (hamp : amp < 65536) (hfreq : freq < 65536) (hmask : mask < 256)
include himax hstart hslow hup hdown hamp hfreq hmask

theorem fieldNat_channelPayload :
    let p := channelPayload imax start slow up down amp freq mask
    fieldNat p 0 2 = imax ∧ fieldNat p 2 2 = start ∧ fieldNat p 4 2 = slow ∧ fieldNat p 6 2 = up ∧ fieldNat p 8 2 = down ∧
      fieldNat p 10 2 = amp ∧ fieldNat p 12 2 = freq ∧ fieldNat p 14 1 = mask := by
  obtain ⟨h0, h2, h4, h6, h8, h10, h12, h14⟩ := field_channelPayload (imax := imax) (start := start) (slow := slow) (up := up)
    (down := down) (amp := amp) (freq := freq) (mask := mask)
  have hword {n : Nat} (h : n < 65536) : beNat (toBe 2 n) = n := beNat_toBe h
  simp only [fieldNat, h0, h2, h4, h6, h8, h10, h12, h14, hword, himax, hstart, hslow, hup, hdown, hamp, hfreq, true_and]
  exact beNat_toBe hmask

theorem channelOf_payload (ch : Nat) :
    channelOf ch (channelPayload imax start slow up down amp freq mask) =
      clampedConfig ch imax start slow up down amp freq mask := by
  obtain ⟨h0, h2, h4, h6, h8, h10, h12, h14⟩ :=
    fieldNat_channelPayload himax hstart hslow hup hdown hamp hfreq hmask
  have hflag : (min 1 mask == 1) = decide (mask ≠ 0) := by
    rw [Bool.eq_iff_iff, beq_iff_eq, decide_eq_true_iff]
    omega
  simp only [channelOf, clampedConfig, h0, h2, h4, h6, h8, h10, h12, h14, hasSlow, decide_eq_true_eq,
    clampNat_natCast (Nat.zero_le _), clampNat_natCast (show 100 ≤ 1500 by decide), clampNat_natCast (show 1 ≤ 200 by decide),
    clampNat_natCast (show 50 ≤ 250 by decide), Nat.zero_max, hflag]

/-- No field was clamped where each stands as it was written; a slow current counts on channels 0 and 1 only. -/
theorem channelClamped_payload {ch : Nat} :
    let g := clampedConfig ch imax start slow up down amp freq mask
    channelClamped ch (channelPayload imax start slow up down amp freq mask) = false ↔
      g.imax = imax ∧ g.start = start ∧ (ch < 2 → min (max 100 (min 1500 imax)) slow = slow) ∧ g.rampUp = up ∧
        g.rampDown = down ∧ g.ditherAmp = amp ∧ g.ditherFreq = freq ∧ mask ≤ 1 := by
  obtain ⟨h0, h2, h4, h6, h8, h10, h12, h14⟩ :=
    fieldNat_channelPayload himax hstart hslow hup hdown hamp hfreq hmask
  have hslowKept : (hasSlow ch && (clampedConfig ch imax start slow up down amp freq mask).slow != some slow) = false ↔
      (ch < 2 → min (max 100 (min 1500 imax)) slow = slow) := by
    by_cases hch : ch < 2 <;> simp [hasSlow, clampedConfig, hch]
  simp only [channelClamped, channelOf_payload himax hstart hslow hup hdown hamp hfreq hmask, h0, h2, h4, h6, h8, h10, h12, h14,
    Bool.or_eq_false_iff, bne_eq_false_iff_eq, decide_eq_false_iff_not, not_lt, hslowKept, and_assoc]

end

/-! ### A new configuration at its channel (R161) -/

section
variable (v : Vd) (ch : Nat) (cfg : ChannelConfig)

/-- The commanded current that a channel has once a configuration has brought it into its range (R161). -/
def Channel.currentUnder (c : Channel) (cfg : ChannelConfig) : Nat :=
  if c.commanded = 0 then 0 else max cfg.start (min cfg.imax c.commanded)

theorem Vd.applyConfig_length : (v.applyConfig ch cfg).chans.length = v.chans.length := List.length_set

theorem Vd.applyConfig_chan_other {k : Nat} (h : ch ≠ k) : (v.applyConfig ch cfg).chan k = v.chan k := by
  simp [Vd.applyConfig, Vd.setChan, Vd.chan, List.getD_eq_getElem?_getD, h]

variable {v ch cfg}

theorem Vd.applyConfig_chan_same (h : ch < v.chans.length) :
    (v.applyConfig ch cfg).chan ch =
      if (v.chan ch).currentUnder cfg = (v.chan ch).commanded then v.chan ch
      else { v.chan ch with commanded := (v.chan ch).currentUnder cfg, openQual := 0, reachQual := 0 } := by
  simp [Vd.applyConfig, Vd.setChan, Vd.chan, Channel.currentUnder, List.getD_eq_getElem?_getD, h]

/-- A drive test of the channel is brought within the new Imax. -/
theorem Vd.applyConfig_test {x : DriveTest} (h : v.test = some x) :
    ∃ y, (v.applyConfig ch cfg).test = some y ∧ y.channel = x.channel ∧
      y.current = if x.channel = ch then min x.current cfg.imax else x.current := by
  refine ⟨if x.channel = ch then { x with current := min x.current cfg.imax } else x, congrArg (Option.map _) h, ?_⟩
  split <;> exact ⟨rfl, rfl⟩

end

/-! ### The write of a configuration (R161, 06 R101) -/

section
variable {s : State} {ch : Nat} (c : ChannelConfig)

theorem Retained.config_set_same (r : Retained) (h : ch < r.configs.length) :
    Retained.config { r with configs := r.configs.set ch c } ch = c := by
  simp [Retained.config, List.getD_eq_getElem?_getD, h]

theorem State.handBack_vd (s : State) (h : ch < 4) : ∃ target, (s.handBack ch).vd = s.vd.hand ch target := by
  interval_cases ch <;> exact ⟨_, rfl⟩

/-- The configuration acts at its channel, and then the owner hands it a target. -/
theorem State.writeChannel_vd (s : State) (h : ch < 4) :
    ∃ target, (s.writeChannel ch c).vd = (s.vd.applyConfig ch c).hand ch target := State.handBack_vd _ h

/-- A write moves the configuration, the channel, a drive test and the floor record's target, and nothing else. -/
theorem State.writeChannel_frame (s : State) (h : ch < 4) :
    s.writeChannel ch c = { s with
      ret := { s.ret with configs := s.ret.configs.set ch c }
      gg := { s.gg with floor := (s.writeChannel ch c).gg.floor }
      vd := { s.vd with chans := (s.writeChannel ch c).vd.chans, test := (s.writeChannel ch c).vd.test } } := by
  obtain ⟨target, hvd⟩ := s.writeChannel_vd c h
  have hframe : (s.writeChannel ch c).vd =
      { s.vd with chans := (s.writeChannel ch c).vd.chans, test := (s.writeChannel ch c).vd.test } := by
    rw [hvd]
    rfl
  rw [← hframe]
  exact State.handBack_frame _ ch

theorem State.writeChannel_inbox (s : State) : (s.writeChannel ch c).inbox = s.inbox := by
  unfold State.writeChannel
  rw [State.handBack_frame]

theorem State.writeChannel_floor_other (s : State) (h : ch ≠ 2) : (s.writeChannel ch c).gg.floor = s.gg.floor := by
  unfold State.writeChannel State.handBack
  split
  case h_3 => exact absurd rfl h
  all_goals rfl

theorem State.writeChannel_floor (h : 2 < s.ret.configs.length) :
    (s.writeChannel 2 c).gg.floor = { s.gg.floor with
      target := floorTarget c.imax
        (if s.gg.floor.state = .holding then s.gg.floor.held.getD .none else s.gg.floor.state) s.gg.floor.band
        s.gg.floor.dF } := by
  change restatedFloor { s.ret with configs := s.ret.configs.set 2 c } s.gg.floor = _
  rw [restatedFloor, s.ret.config_set_same c h]

theorem State.writeChannel_chan_other (s : State) (h : ch < 4) {k : Nat} (hk : k ≠ ch) :
    (s.writeChannel ch c).vd.chan k = s.vd.chan k := by
  obtain ⟨target, hvd⟩ := s.writeChannel_vd c h
  rw [hvd, Vd.hand_chan_other _ hk.symm, Vd.applyConfig_chan_other _ _ _ hk.symm]

theorem State.writeChannel_chan (h : ch < 4) (hlength : s.vd.chans.length = 4) :
    ∃ target, (s.writeChannel ch c).vd.chan ch = { (s.vd.applyConfig ch c).chan ch with owner := target } := by
  obtain ⟨target, hvd⟩ := s.writeChannel_vd c h
  refine ⟨target, ?_⟩
  rw [hvd, Vd.hand_chan_same _ (by rw [Vd.applyConfig_length]; omega)]

/-- A commanded current outside the new range is brought into it, and both qualifications are over. -/
theorem State.writeChannel_chan_brought (h : ch < 4) (hlength : s.vd.chans.length = 4)
    (hbrought : (s.vd.chan ch).currentUnder c ≠ (s.vd.chan ch).commanded) :
    (s.writeChannel ch c).vd.chan ch = { s.vd.chan ch with
      owner := ((s.writeChannel ch c).vd.chan ch).owner, commanded := (s.vd.chan ch).currentUnder c
      openQual := 0, reachQual := 0 } := by
  obtain ⟨target, hchan⟩ := State.writeChannel_chan c h hlength
  rw [hchan, Vd.applyConfig_chan_same (by omega), if_neg hbrought]

/-- A commanded current that lies in the new range stands. -/
theorem State.writeChannel_chan_kept (h : ch < 4) (hlength : s.vd.chans.length = 4)
    (hkept : (s.vd.chan ch).currentUnder c = (s.vd.chan ch).commanded) :
    (s.writeChannel ch c).vd.chan ch = { s.vd.chan ch with owner := ((s.writeChannel ch c).vd.chan ch).owner } := by
  obtain ⟨target, hchan⟩ := State.writeChannel_chan c h hlength
  rw [hchan, Vd.applyConfig_chan_same (by omega), if_pos hkept]

theorem State.writeChannel_test (s : State) (h : ch < 4) :
    (s.writeChannel ch c).vd.test = (s.vd.applyConfig ch c).test := by
  obtain ⟨target, hvd⟩ := s.writeChannel_vd c h
  rw [hvd]
  rfl

end

/-! ### The requests -/

section
variable {s : State} {i : Nat}

theorem State.putEntry_channels (s : State) (i : Nat) {p : List Byte} (hp : p.length = 15) :
    s.putEntry 7 i p = s.putChannel i p := by
  simp [State.putEntry, tableRefused, putLength, hp]

theorem State.putChannel_badIndex (p : List Byte) (h : 4 ≤ i) : s.putChannel i p = (s, .badIndex, []) := if_pos h

theorem State.putChannel_writes (p : List Byte) (h : i < 4) :
    s.putChannel i p = (s.writeChannel i (channelOf i p), okOr (channelClamped i p), indexWritten i) := if_neg (by omega)

theorem State.retireChannel_badIndex (h : 4 ≤ i) : s.retireChannel i = (s, .badIndex, []) := if_pos h

theorem State.retireChannel_writes (h : i < 4) : s.retireChannel i = (s.writeChannel i (defaultConfig i), .ok, []) :=
  if_neg (by omega)

theorem defaultConfig_eq (h : i < 4) (g : ChannelConfig) : defaultConfig i = defaultConfigs.getD i g := by
  interval_cases i <;> rfl

theorem okOr_eq_ok_iff (clamped : Bool) : okOr clamped = .ok ↔ clamped = false := by cases clamped <;> simp [okOr]

end

end Sys2Proof.Machine

open Sys2Proof Sys2Proof.Machine in
/-- Settles O58: a payload gives the clamped figures (`channelOf_payload`, `channelClamped_payload`), a write acts at its channel
(`State.writeChannel_chan_brought`, `State.writeChannel_test`, `State.writeChannel_floor`) and leaves the rest
(`State.writeChannel_frame`), and the owners' targets follow (`State.TargetsSound.writeChannel`). -/
theorem channelConfigured : Obligations.ChannelConfigured := by
  intro s b imax start slow up down amp freq mask h hsound himax hstart hslow hup hdown hamp hfreq hmask top g payload fl placed
  obtain ⟨hchans, hconfigs, -⟩ := id hsound
  have hlength : payload.length = 15 := channelPayload_length
  have hconfig : channelOf b.toNat payload = g := channelOf_payload himax hstart hslow hup hdown hamp hfreq hmask _
  have hplaced (c : ChannelConfig) (hb : b.toNat < 4) (code : Nat) (r : ResultCode) (p : List Byte) :
      placed c ((s.writeChannel b.toNat c).answer code r p) := by
    refine ⟨(hsound.writeChannel b.toNat c).answer code r p, ?_, s.writeChannel_floor_other c, fun htwo => ?_, ⟨?_, ?_⟩,
      fun x hx => ?_, fun hnone => ?_, fun k hk => s.writeChannel_chan_other c hb hk⟩
    · exact congrArg (fun t : State => t.answer code r p) (s.writeChannel_frame c hb)
    · exact (congrArg (fun k => (s.writeChannel k c).gg.floor) htwo).trans (State.writeChannel_floor c (by omega))
    · exact fun hbrought => State.writeChannel_chan_brought c hb hchans hbrought
    · exact fun hkept => State.writeChannel_chan_kept c hb hchans (not_not.mp hkept)
    · rw [State.answer_vd, State.writeChannel_test c s hb]
      exact Vd.applyConfig_test hx
    · rw [State.answer_vd, State.writeChannel_test c s hb]
      exact congrArg (Option.map _) hnone
  refine ⟨fun hb => ⟨?_, ?_⟩, fun hb => ⟨?_, ?_⟩⟩
  · have hput := (s.putEntry_channels b.toNat hlength).trans (State.putChannel_writes payload hb)
    rw [hconfig, indexWritten_toNat] at hput
    refine ⟨_, exec_putEntry_silent h (s.writeChannel_inbox g) hput, hplaced g hb _ _ _, _, rfl, ?_, ?_⟩
    · cases channelClamped b.toNat payload
      · exact .inl rfl
      · exact .inr rfl
    · exact (okOr_eq_ok_iff _).trans (channelClamped_payload himax hstart hslow hup hdown hamp hfreq hmask)
  · have hretire : s.retireEntry 7 b.toNat = _ := State.retireChannel_writes hb
    rw [defaultConfig_eq hb g] at hretire
    exact ⟨_, exec_retireEntry_silent h (State.writeChannel_inbox _ s) hretire, hplaced _ hb _ _ _, rfl⟩
  · exact exec_putEntry_refused h ((s.putEntry_channels _ hlength).trans (State.putChannel_badIndex payload hb))
  · exact exec_retireEntry_refused h (State.retireChannel_badIndex hb)
end

-- ==== Proofs of sitting 7: the torque limit ====

section
/-! PROOFS. T and the figures that enter it (07 R116 to R119): the base torque, the derates of the CRITICAL items, the least of
them all, and the target that a working-out hands channel 3. -/

namespace Sys2Proof.Machine

/-! ### Derates (07 R118, 08 R135) -/

/-- The derate that an entry puts into T: that of a CRITICAL item which carries one. -/
def criticalDerate (e : Option Item) : Option Nat := if stateOf e = some .critical then e.bind Item.derate else none

theorem criticalDerates_eq (items : List (Option Item)) : criticalDerates items = items.filterMap criticalDerate := by
  refine List.filterMap_congr fun e _ => ?_
  cases e with
  | none => rfl
  | some it => simp [criticalDerate, stateOf]

theorem mem_criticalDerates {items : List (Option Item)} {d : Nat} :
    d ∈ criticalDerates items ↔ ∃ it, some it ∈ items ∧ it.state = .critical ∧ it.derate = some d := by
  rw [criticalDerates_eq, List.mem_filterMap]
  constructor
  · rintro ⟨e, he, hd⟩
    cases e with
    | none => simp [criticalDerate, stateOf] at hd
    | some it =>
      obtain ⟨hcritical, hderate⟩ : it.state = .critical ∧ it.derate = some d := by simpa [criticalDerate, stateOf] using hd
      exact ⟨it, he, hcritical, hderate⟩
  · rintro ⟨it, he, hcritical, hderate⟩
    exact ⟨some it, he, by simp [criticalDerate, stateOf, hcritical, hderate]⟩

/-- Tables whose entries put the same derates into T give the same list of them. -/
theorem criticalDerates_congr {items items' : List (Option Item)} (hlength : items'.length = items.length)
    (h : ∀ i, criticalDerate (items'.getD i none) = criticalDerate (items.getD i none)) :
    criticalDerates items' = criticalDerates items := by
  have hmap : items'.map criticalDerate = items.map criticalDerate := by
    refine List.ext_getElem (by simpa using hlength) fun i hi hi' => ?_
    have hentry := h i
    rw [List.length_map] at hi hi'
    rw [List.getD_eq_getElem _ _ hi, List.getD_eq_getElem _ _ hi'] at hentry
    rw [List.getElem_map, List.getElem_map, hentry]
  have hid (l : List (Option Item)) : criticalDerates l = (l.map criticalDerate).filterMap id := by
    rw [criticalDerates_eq, List.filterMap_map]
    rfl
  rw [hid, hid, hmap]

/-- An entry that stays in CRITICAL with its derate, or outside it, puts into T what it did. -/
theorem criticalDerate_of_not_moved {before after : Option Item}
    (hmoved : criticalMoved (stateOf before) (stateOf after) = false)
    (hderate : stateOf before = some .critical → after.bind Item.derate = before.bind Item.derate) :
    criticalDerate after = criticalDerate before := by
  have hiff : stateOf before = some .critical ↔ stateOf after = some .critical := by simpa [criticalMoved] using hmoved
  by_cases hcritical : stateOf before = some .critical
  · rw [criticalDerate, criticalDerate, if_pos hcritical, if_pos (hiff.mp hcritical), hderate hcritical]
  · rw [criticalDerate, criticalDerate, if_neg hcritical, if_neg (mt hiff.mpr hcritical)]

/-! ### The least figure (R116, R118) -/

theorem baseTorque_eq (r : Retained) (st : EconomyState) :
    baseTorque r st = if st = .working ∨ st = .settling then (r.mode r.selectedMode).torque else r.settings.idleTorque := by
  simp only [baseTorque, usesMode_iff]

theorem foldl_min_mem (ds : List Nat) (b : Nat) : ds.foldl min b ∈ b :: ds := by
  induction ds generalizing b with
  | nil => exact List.mem_singleton_self b
  | cons d ds ih =>
    rw [List.foldl_cons]
    rcases List.mem_cons.mp (ih (min b d)) with hleast | hrest
    · rw [hleast]
      rcases min_choice b d with h | h <;> simp [h]
    · exact List.mem_cons_of_mem b (List.mem_cons_of_mem d hrest)

theorem foldl_min_le (ds : List Nat) (b : Nat) : ∀ d ∈ b :: ds, ds.foldl min b ≤ d := by
  induction ds generalizing b with
  | nil => simp
  | cons e ds ih =>
    rw [List.foldl_cons]
    obtain ⟨hleast, hrest⟩ := List.forall_mem_cons.mp (ih (min b e))
    exact List.forall_mem_cons.mpr
      ⟨hleast.trans (min_le_left b e), List.forall_mem_cons.mpr ⟨hleast.trans (min_le_right b e), hrest⟩⟩

/-- The figure that the derates are set against: the base torque, and the oil derate torque while the latch holds. -/
def engineFigure (r : Retained) (st : EconomyState) (latch : Bool) : Nat :=
  if latch then min (baseTorque r st) r.settings.oilTorque else baseTorque r st

theorem torqueLimit_le (r : Retained) (st : EconomyState) (latch : Bool) :
    torqueLimit r st latch ≤ engineFigure r st latch ∧ ∀ d ∈ criticalDerates r.items, torqueLimit r st latch ≤ d :=
  List.forall_mem_cons.mp (foldl_min_le _ _)

theorem torqueLimit_mem (r : Retained) (st : EconomyState) (latch : Bool) :
    torqueLimit r st latch = engineFigure r st latch ∨ torqueLimit r st latch ∈ criticalDerates r.items :=
  List.mem_cons.mp (foldl_min_mem _ _)

/-- Contents that put the same figures into T give the same T. -/
theorem torqueLimit_congr {r r' : Retained} (hderates : criticalDerates r'.items = criticalDerates r.items)
    (hmode : r'.mode r'.selectedMode = r.mode r.selectedMode) (hidle : r'.settings.idleTorque = r.settings.idleTorque)
    (hoil : r'.settings.oilTorque = r.settings.oilTorque) (st : EconomyState) (latch : Bool) :
    torqueLimit r' st latch = torqueLimit r st latch := by
  simp only [torqueLimit, baseTorque, hderates, hmode, hidle, hoil]

/-! ### A working-out of T (R118, R119) -/

theorem torqueTarget_cast (imax : Nat) {torque : Nat} (h : torque ≤ 100) :
    (torqueTarget imax torque : Int) = rndDiv (imax * (100 - (torque : Int))) 60 :=
  Int.toNat_of_nonneg (rndDiv_nonneg (mul_nonneg (Int.natCast_nonneg _) (by omega)) _)

theorem State.workOutTorque_same {s : State} (h : torqueLimit s.ret s.ec.state s.ec.oilLatch = s.ec.torque) :
    s.workOutTorque = s := by
  unfold State.workOutTorque
  rw [if_pos h, h]

theorem State.workOutTorque_changed {s : State} (h : torqueLimit s.ret s.ec.state s.ec.oilLatch ≠ s.ec.torque) :
    s.workOutTorque = { s with
      ec := { s.ec with torque := torqueLimit s.ret s.ec.state s.ec.oilLatch }
      vd := s.vd.hand 3 (torqueTarget (s.ret.config 3).imax (torqueLimit s.ret s.ec.state s.ec.oilLatch)) } := by
  unfold State.workOutTorque
  rw [if_neg h]

end Sys2Proof.Machine

open Sys2Proof.Machine in
/-- Settles O32: T is a minimum folded over the derates (`torqueLimit_le`, `torqueLimit_mem`), from the base torque and, while the
latch holds, the oil derate torque. -/
theorem torqueIsLeastFigure : Obligations.TorqueIsLeastFigure := by
  intro ret st latch
  obtain ⟨hfigure, hderates⟩ := torqueLimit_le ret st latch
  have hmem := torqueLimit_mem ret st latch
  rw [engineFigure, baseTorque_eq] at hfigure hmem
  refine ⟨hfigure.trans ?_, fun hlatch => hfigure.trans ?_, fun d hd => hderates d (mem_criticalDerates.mpr hd), ?_⟩
  · cases latch
    · exact le_rfl
    · exact min_le_left _ _
  · rw [if_pos hlatch]
    exact min_le_right _ _
  · rcases hmem with hleast | hderate
    · cases latch
      · exact .inl hleast
      · exact (min_choice _ _).imp hleast.trans fun hoil => .inl ⟨rfl, hleast.trans hoil⟩
    · exact .inr (.inr (mem_criticalDerates.mp hderate))

open Sys2Proof.Machine in
/-- Settles O48: a T that stays is a working-out without effect (`State.workOutTorque_same`); one that changes is handed on
(`State.workOutTorque_changed`), and in its range the target is Rnd itself (`torqueTarget_cast`). -/
theorem torqueWorkedOut : Obligations.TorqueWorkedOut := fun _ =>
  ⟨State.workOutTorque_same, fun hchanged _ htop => ⟨_, torqueTarget_cast _ htop, State.workOutTorque_changed hchanged⟩⟩
end

-- ==== Proofs of sitting 7: the quantum ====

section
/-! PROOFS. QUANTUM_COMPLETION and CLEAR_SHIFT (07 R120 to R124): the time that passes first, the meters and the tally, and the
hour items that the new meters move (08 R132, R134). -/

namespace Sys2Proof.Machine

/-! ### An event of the Service Schedule (08 R131 to R135) -/

/-- The Service Item Table once the items on some bases have been changed and evaluated. -/
def Retained.served (r : Retained) (concerns : ServiceBasis → Bool) (change : Item → Item) : List (Option Item) :=
  r.items.map (Option.map (fun it => if concerns it.basis then (change it).evaluated r else it))

/-- An event serves the table, reports the moves of its items, and has T worked out where one is due. -/
theorem State.serviceEvent_eq (s : State) (concerns : ServiceBasis → Bool) (change : Item → Item) :
    s.serviceEvent concerns change =
      ({ s with
        ret := { s.ret with items := s.ret.served concerns change }
        inbox := s.inbox ++ tableReports s.ret.items (s.ret.served concerns change) } : State).derateReport
        (tableCriticalMoved s.ret.items (s.ret.served concerns change)) := rfl

section
variable (r : Retained) (concerns : ServiceBasis → Bool) (change : Item → Item)

theorem Retained.served_length : (r.served concerns change).length = r.items.length := List.length_map _

theorem Retained.served_getD (i : Nat) :
    (r.served concerns change).getD i none =
      (r.items.getD i none).map (fun it => if concerns it.basis then (change it).evaluated r else it) := by
  simp only [Retained.served, List.getD_eq_getElem?_getD, List.getElem?_map]
  cases r.items[i]? <;> rfl

/-- An event reports the moves of the items that it concerns. -/
theorem tableReports_served :
    tableReports r.items (r.served concerns change) = itemsConditions concerns r.items (r.served concerns change) := by
  refine tableReports_eq rfl (fun _ _ => ⟨rfl, rfl⟩) fun i hother => ?_
  rw [r.served_getD]
  cases hit : r.items.getD i none with
  | none => rfl
  | some it =>
    rw [hit] at hother
    have hbasis : concerns it.basis = false := hother
    simp [hbasis]

end

theorem ServiceBasis.hours_eq : ServiceBasis.hours = fun b => b == .engineHours || b == .weightedHours := by
  funext b
  cases b <;> rfl

theorem ServiceBasis.hours_iff {b : ServiceBasis} : b.hours = true ↔ b = .engineHours ∨ b = .weightedHours := by
  cases b <;> simp [ServiceBasis.hours]

/-! ### The metered quantum (07 R120 to R122) -/

theorem LoadClass.weight_bounds (c : LoadClass) : 50 ≤ c.weight ∧ c.weight ≤ 150 := by cases c <;> decide

/-- The load class of the quantum that runs (R121). -/
def State.loadClass (s : State) : LoadClass := loadClassOf s.ec.pumpSum s.ec.pumpCount s.ret.settings.ratedPump

theorem Shift.tally_eq (x : Shift) (c : LoadClass) :
    x.tally c = { x with
      idle := if c = .idle then min 4294967295 (x.idle + 1) else x.idle
      light := if c = .light then min 4294967295 (x.light + 1) else x.light
      normal := if c = .normal then min 4294967295 (x.normal + 1) else x.normal
      heavy := if c = .heavy then min 4294967295 (x.heavy + 1) else x.heavy } := by
  cases c <;> rfl

/-- Once the time that the quantum lacks has passed, what came in beyond its 36,000 ms is in excess (log entries 2, 3). -/
theorem State.elapse_excess {s : State} (h : s.metering = true) :
    (s.elapse (36000 - (s.ec.partialMs + s.ec.overMs))).ec.excess = s.ec.partialMs + s.ec.overMs - 36000 := by
  rw [State.elapse_ec, h, Ec.excess, Ec.elapse_running, Config.quantum]
  omega

/-- The state with a quantum metered and its hour items served, but for T: what the quantum lacked has passed, and the next one
begins with what came in beyond it. -/
def State.quantumServed (s : State) (lack excess : Nat) : State :=
  let r := s.ret.metered s.loadClass
  let u := s.elapse lack
  { u with
    ret := { r with items := r.served ServiceBasis.hours id }
    ec := { u.ec with partialMs := min excess 35999, overMs := excess - 35999, pumpSum := 0, pumpCount := 0 }
    inbox := s.inbox ++ tableReports s.ret.items (r.served ServiceBasis.hours id) }

theorem State.completeQuantum_withTorque {s : State} (h : s.metering = true) :
    ∃ torque target, (s.elapse (36000 - (s.ec.partialMs + s.ec.overMs))).completeQuantum =
      (s.quantumServed (36000 - (s.ec.partialMs + s.ec.overMs)) (s.ec.partialMs + s.ec.overMs - 36000)).withTorque
        torque target := by
  unfold State.completeQuantum
  rw [State.elapse_excess h]
  exact State.derateReport_withTorque _ _

/-- A metered quantum moves the meters, the shift, the items, the sums of the quantum, T with its target, and the notices. -/
theorem State.quantumServed_frame {s : State} (h : s.inbox = []) (lack excess torque target : Nat) :
    let u := s.elapse lack
    let t := ((s.quantumServed lack excess).withTorque torque target).deliver
    t = { u with
      ret := { s.ret with
        engineMeter := t.ret.engineMeter, weightedMeter := t.ret.weightedMeter, shift := t.ret.shift, items := t.ret.items }
      ec := { u.ec with
        partialMs := t.ec.partialMs, overMs := t.ec.overMs, pumpSum := 0, pumpCount := 0, torque := t.ec.torque }
      nu := t.nu, vd := { u.vd with chans := t.vd.chans }, choice := t.choice } :=
  State.eq_of_inbox rfl h.symm

section
variable {s : State}

theorem exec_quantumCompletion_metering (hrun : s.phase = .running) (h : s.metering = true) :
    exec .quantumCompletion s = .next (s.elapse (36000 - (s.ec.partialMs + s.ec.overMs))).completeQuantum.deliver :=
  (State.commit_running hrun _).trans (congrArg (fun u : State => Host.Outcome.next u.deliver) (if_pos h))

theorem exec_quantumCompletion_paused (hrun : s.phase = .running) (hpaused : s.metering = false) :
    exec .quantumCompletion s = .next s.deliver := by
  refine (State.commit_running hrun _).trans (congrArg (fun u : State => Host.Outcome.next u.deliver) (if_neg ?_))
  simp [hpaused]

theorem exec_quantumCompletion_stopped (hstopped : s.phase ≠ .running) : exec .quantumCompletion s = .next s :=
  State.commit_stopped hstopped _

theorem exec_clearShift (h : s.Ready) :
    exec .clearShift s =
      .next (({ s with ret := { s.ret with shift := ⟨0, 0, 0, 0, 0⟩ }, ec := { s.ec with fuelRem := 0 } } : State).answer
        18 .ok []) := by
  refine (State.commit_running h.1 (fun s => State.answer { s with ret := _, ec := _ } 18 .ok [])).trans ?_
  exact congrArg Host.Outcome.next (State.deliver_none (show _ = [] from h.2))

end

end Sys2Proof.Machine

open Sys2Proof Sys2Proof.Machine in
/-- Settles O49: a completion leaves the state of `State.quantumServed`, T apart, and its reports are those of the hour items that
move (`tableReports_served`); while metering is paused it does nothing, and CLEAR_SHIFT leaves the meters. -/
theorem quantumMetered : Obligations.QuantumMetered := by
  intro s h n pct c w full x got
  have hclass : s.loadClass = c := rfl
  refine ⟨fun hmetering => ?_, fun hpaused => ?_, exec_clearShift h⟩
  case refine_2 => rw [exec_quantumCompletion_paused h.1 hpaused, State.deliver_none h.2]
  obtain ⟨torque, target, hquantum⟩ := State.completeQuantum_withTorque hmetering
  have hweight : c.weight = w := rfl
  refine ⟨((s.quantumServed (36000 - got) (got - 36000)).withTorque torque target).deliver, ?_,
    fun hlt => ⟨if_pos hlt, ?_⟩, fun hle => ⟨?_, ?_⟩, ?_, ?_, ?_, fun i it hit => ?_, ?_, ?_⟩
  · rw [exec_quantumCompletion_metering h.1 hmetering, hquantum]
  · exact (if_pos hlt).trans (by rw [hclass, hweight])
  · exact if_neg (Nat.not_lt.mpr hle)
  · exact if_neg (Nat.not_lt.mpr hle)
  · exact (Shift.tally_eq _ _)
  · exact min_comm _ _
  · show min (got - 36000) 35999 + (got - 36000 - 35999) = got - 36000
    omega
  · have hitem : ((s.quantumServed (36000 - got) (got - 36000)).withTorque torque target).deliver.ret.item i =
        some (if it.basis.hours then it.evaluated (s.ret.metered c) else it) :=
      (Retained.served_getD (s.ret.metered c) _ _ i).trans (congrArg (Option.map _) hit)
    refine ⟨_, hitem, ?_, ?_, fun hbasis => ?_⟩
    · split <;> rfl
    · split <;> rfl
    · rw [if_pos (ServiceBasis.hours_iff.mpr hbasis)]
      rfl
  · refine (State.deliver_notices _).trans (congrArg (fun rs => noticesAfter rs s.nu.notices) ?_)
    rw [← ServiceBasis.hours_eq]
    show s.inbox ++ _ = _
    rw [h.2]
    exact tableReports_served (s.ret.metered c) ServiceBasis.hours id
  · exact State.quantumServed_frame h.2 _ _ _ _
end

-- ==== Proofs of sitting 7: the meters and T through every step ====

section
/-! PROOFS. The meters move at a metered quantum and at a power-on that finds the contents lost (07 R122, 11 R184), and nowhere
else. T stays the least of its figures (07 R118), since whatever moves a figure has T worked out afresh. Both are followed
through the commands at once: a steady operation leaves the meters and keeps T. -/

namespace Sys2Proof.Machine

/-! ### Operations that leave the meters and keep T -/

/-- Both meters stand as in another state. -/
def State.SameMeters (t s : State) : Prop :=
  t.ret.engineMeter = s.ret.engineMeter ∧ t.ret.weightedMeter = s.ret.weightedMeter

/-- The meters stand, and where T was the least of its figures it is. -/
def State.Steady (t s : State) : Prop := t.SameMeters s ∧ (s.TorqueSound → t.TorqueSound)

/-- A working-out makes T the least of its figures, whatever it was. -/
theorem State.workOutTorque_sound (s : State) : s.workOutTorque.TorqueSound := rfl

/-- Contents that put the same figures into T stand beside the same T. -/
theorem State.TorqueSound.setRet {s : State} (h : s.TorqueSound) {r : Retained}
    (hderates : criticalDerates r.items = criticalDerates s.ret.items)
    (hmode : r.mode r.selectedMode = s.ret.mode s.ret.selectedMode)
    (hidle : r.settings.idleTorque = s.ret.settings.idleTorque) (hoil : r.settings.oilTorque = s.ret.settings.oilTorque) :
    State.TorqueSound { s with ret := r } :=
  h.trans (torqueLimit_congr (r' := r) hderates hmode hidle hoil _ _).symm

/-- A table that puts the same derates into T stands beside the same T. -/
theorem State.TorqueSound.setItems {s : State} (h : s.TorqueSound) {items : List (Option Item)}
    (hsame : criticalDerates items = criticalDerates s.ret.items) :
    State.TorqueSound { s with ret := { s.ret with items := items } } :=
  h.setRet hsame rfl rfl rfl

/-- T is kept where a derate report is due whenever the report would change T (08 R135). -/
theorem State.TorqueSound.derateReport {s : State} {due : Bool} (h : due = false → s.TorqueSound) :
    (s.derateReport due).TorqueSound := by
  cases due
  · exact h rfl
  · exact s.workOutTorque_sound

/-- A change of an item's count or state moves T only by a move into CRITICAL or out of it. -/
theorem State.TorqueSound.serviceEvent {s : State} (h : s.TorqueSound) (concerns : ServiceBasis → Bool) {change : Item → Item}
    (hderate : ∀ it, (change it).derate = it.derate) : (s.serviceEvent concerns change).TorqueSound := by
  have hlength := s.ret.served_length concerns change
  rw [State.serviceEvent_eq]
  refine .derateReport fun hdue => h.setItems (criticalDerates_congr hlength fun i => ?_)
  by_cases hi : i < s.ret.items.length
  · refine criticalDerate_of_not_moved ?_ fun _ => ?_
    · have hmoves := List.any_eq_false.mp hdue i (List.mem_range.mpr hi)
      exact eq_false_of_ne_true hmoves
    · rw [s.ret.served_getD]
      cases s.ret.items.getD i none with
      | none => rfl
      | some it =>
        by_cases hconcerns : concerns it.basis = true
        · simp [hconcerns, Item.evaluated, hderate]
        · simp [hconcerns]
  · rw [List.getD_eq_default _ _ (by omega), List.getD_eq_default _ _ (by omega)]

/-- No setting but the idle torque and the oil derate torque is a figure of T. -/
theorem Settings.written_torques (x : Settings) (v : Int) {n : Nat} (hn : n ≠ 25 ∧ n ≠ 27) :
    (x.written v n).idleTorque = x.idleTorque ∧ (x.written v n).oilTorque = x.oilTorque := by
  unfold Settings.written
  split
  case h_24 => exact absurd rfl hn.1
  case h_26 => exact absurd rfl hn.2
  all_goals exact ⟨rfl, rfl⟩

namespace State.Steady

variable {u s : State}

theorem refl (s : State) : s.Steady s := ⟨⟨rfl, rfl⟩, id⟩

/-- A working-out of T after anything that leaves the meters. -/
theorem workOutTorque (h : u.SameMeters s) : u.workOutTorque.Steady s := ⟨h, fun _ => u.workOutTorque_sound⟩

/-! ### Operations that several commands share -/

theorem elapse (h : u.Steady s) (dt : Nat) : (u.elapse dt).Steady s := h

theorem report (h : u.Steady s) (rs : List Report) : (u.report rs).Steady s := h

theorem serviceEvent (h : u.Steady s) (concerns : ServiceBasis → Bool) {change : Item → Item}
    (hderate : ∀ it, (change it).derate = it.derate) : (u.serviceEvent concerns change).Steady s := by
  refine ⟨?_, fun hs => (h.2 hs).serviceEvent concerns hderate⟩
  rw [State.serviceEvent_frame]
  exact h.1

/-- A written entry calls for a derate report where it changes the derates that enter T (R135). -/
theorem writeItem (h : u.Steady s) (i : Nat) (it : Item) : (u.writeItem i it).Steady s := by
  refine ⟨?_, fun hs => ?_⟩
  · rw [State.writeItem_frame]
    exact h.1
  refine State.TorqueSound.derateReport fun hdue =>
    State.TorqueSound.setItems (h.2 hs) (criticalDerates_congr List.length_set fun j => ?_)
  obtain ⟨hmoved, hderate⟩ := Bool.or_eq_false_iff.mp hdue
  by_cases hj : i = j ∧ j < u.ret.items.length
  · obtain ⟨rfl, hi⟩ := hj
    have hset : (u.ret.items.set i (some it)).getD i none = some it := by simp [List.getD_eq_getElem?_getD, hi]
    rw [hset]
    refine criticalDerate_of_not_moved (before := u.ret.item i) hmoved fun hcritical => ?_
    have hstays : it.state = .critical := by
      have hiff : stateOf (u.ret.item i) = some .critical ↔ it.state = .critical := by simpa [criticalMoved] using hmoved
      exact hiff.mp hcritical
    cases hold : u.ret.item i with
    | none =>
      rw [hold] at hcritical
      cases hcritical
    | some old =>
      rw [hold] at hcritical hderate
      have hkept : old.derate = it.derate := by simpa [hstays, hcritical] using hderate
      exact hkept.symm
  · have hset : (u.ret.items.set i (some it)).getD j none = u.ret.items.getD j none := by
      by_cases hij : i = j
      · rw [List.set_eq_of_length_le (by omega)]
      · simp [List.getD_eq_getElem?_getD, hij]
    rw [hset]

/-- A retired entry that was CRITICAL calls for a derate report; no other put a derate into T. -/
theorem retireItem (h : u.Steady s) (i : Nat) : (u.retireItem i).1.Steady s := by
  unfold State.retireItem
  split
  · exact h
  split
  · exact h
  split
  · exact h
  next it hold =>
    refine ⟨?_, fun hs => ?_⟩
    · rw [State.derateReport_frame]
      exact h.1
    refine State.TorqueSound.derateReport fun hdue =>
      State.TorqueSound.setItems (h.2 hs) (criticalDerates_congr List.length_set fun j => ?_)
    by_cases hj : i = j
    · subst hj
      have hcritical : it.state ≠ .critical := by simpa using hdue
      have hempty : (u.ret.items.set i none).getD i none = none := by
        by_cases hi : i < u.ret.items.length <;> simp [List.getD_eq_getElem?_getD, hi]
      rw [hempty, show u.ret.items.getD i none = some it from hold]
      simp [criticalDerate, stateOf, hcritical]
    · simp [List.getD_eq_getElem?_getD, hj]

theorem recompute (h : u.Steady s) : u.recompute.Steady s := by
  have hposed : ((u.publish u.nextPose).evaluateLimits).evaluateGrade.Steady s := h
  unfold State.recompute
  dsimp only
  split
  · exact hposed.serviceEvent _ fun _ => rfl
  · exact hposed

/-! ### The Economy Controller -/

theorem ecoMove (h : u.SameMeters s) (st : EconomyState) (auto shut wait : Timer) : (u.ecoMove st auto shut wait).Steady s :=
  workOutTorque (u := State.report _ _) h

theorem judgeEngine (h : u.Steady s) : u.judgeEngine.Steady s := by
  unfold State.judgeEngine State.enterWorking
  repeat' split
  any_goals exact h
  all_goals exact ecoMove h.1 _ _ _ _

theorem judgeActivity (h : u.Steady s) : u.judgeActivity.Steady s := by
  unfold State.judgeActivity State.activityBegins State.activityEnds
  dsimp only
  have hjudged : State.Steady { u with ec := { u.ec with active := activityNow u.ret.settings u.ec } } s := h
  repeat' split
  any_goals exact hjudged
  all_goals exact ecoMove hjudged.1 _ _ _ _

theorem judgeOil (h : u.Steady s) : u.judgeOil.Steady s := by
  unfold State.judgeOil
  dsimp only
  split
  · exact h
  · exact workOutTorque h.1

theorem autoIdleWritten (h : u.Steady s) (before : Nat) : (u.autoIdleWritten before).Steady s := by
  unfold State.autoIdleWritten
  repeat' split
  any_goals exact h
  all_goals exact ecoMove h.1 _ _ _ _

theorem shutdownWritten (h : u.Steady s) (before : Nat) : (u.shutdownWritten before).Steady s := by
  unfold State.shutdownWritten
  repeat' split
  all_goals exact h

theorem ecSource (h : u.Steady s) (i : Nat) (x : SourceSlot) (accepted : Bool) : (u.ecSource i x accepted).Steady s := by
  have hcopied : State.Steady { u with ec := { u.ec with copies := u.ec.copies.set (i - 3) ⟨x.state, x.lastGood⟩ } } s := h
  unfold State.ecSource State.pumpSample State.fuelState
  dsimp only
  split
  · repeat' split
    all_goals exact hcopied
  · exact hcopied.judgeEngine
  · repeat' split
    all_goals exact hcopied
  · exact hcopied.judgeOil
  · exact hcopied.judgeActivity
  · exact hcopied

theorem selectMode (h : u.Steady s) (i : Nat) : (u.selectMode i).Steady s := by
  have hselected : State.SameMeters { u with ret := { u.ret with selectedMode := i } } s := h.1
  unfold State.selectMode
  dsimp only
  split
  · exact workOutTorque h.1
  · split <;> exact ecoMove hselected _ _ _ _
  · exact workOutTorque hselected

theorem writeMode (h : u.Steady s) (i : Nat) (m : WorkMode) : (u.writeMode i m).Steady s := by
  unfold State.writeMode
  dsimp only
  split
  · exact workOutTorque h.1
  · next hother =>
    refine ⟨h.1, fun hs => (h.2 hs).setRet rfl ?_ rfl rfl⟩
    simp [Retained.mode, List.getD_eq_getElem?_getD, hother]

/-! ### Samples, slots, gates -/

theorem tellConsumer (h : u.Steady s) (i : Nat) (changed accepted : Bool) : (u.tellConsumer i changed accepted).Steady s := by
  unfold State.tellConsumer
  split
  · split
    · exact recompute (u := { u with pu := _ }) h
    · exact h
  split
  · exact h.ecSource _ _ _
  · exact h

theorem foldl {α : Type} {op : State → α → State} (hop : ∀ (v : State) (a : α), v.Steady s → (op v a).Steady s)
    (l : List α) (h : u.Steady s) : (l.foldl op u).Steady s :=
  List.foldlRecOn (motive := fun v => v.Steady s) l op h fun v hv a _ => hop v a hv

theorem takeSample (f : CanFrame) (h : u.Steady s) (i : Nat) : (State.takeSample f u i).Steady s := by
  unfold State.takeSample
  split
  · exact tellConsumer (u := (u.setSlot i _).report _) h _ _ _
  · exact tellConsumer (u := (u.setSlot i _).report _) h _ _ _

theorem frameArrives (h : u.Steady s) (f : CanFrame) : (u.frameArrives f).Steady s :=
  foldl (u := { u with choice := _ }) (fun _ i hv => hv.takeSample f i) _ h

theorem sourceLost (h : u.Steady s) (i : Nat) : (u.sourceLost i).Steady s :=
  tellConsumer (u := (u.setSlot i _).report _) h _ _ _

theorem writeSource (h : u.Steady s) (i : Nat) (x : SourceRecord) : (u.writeSource i x).Steady s :=
  tellConsumer (u := ((u.setSource i x).setSlot i _).report _) h _ _ _

theorem closeGate (h : u.Steady s) (count : Nat) (r : Bool) : (u.closeGate count r).Steady s := by
  have hgate (phi : Nat) (w : Int) : ((State.puGate { u with sc := u.sc.closed u.ret.settings } phi r w).ecGate w).Steady s :=
    judgeActivity (u := { (State.puGate _ phi r w) with ec := _ }) (recompute (u := { u with sc := _, pu := _ }) h)
  unfold State.closeGate
  dsimp only
  split
  · exact (hgate _ _).serviceEvent _ fun _ => rfl
  · exact hgate _ _

theorem gateExpires (h : u.Steady s) : u.gateExpires.Steady s := by
  unfold State.gateExpires
  split <;> exact h.closeGate _ _

theorem rampExpires (h : u.Steady s) (ch : Nat) (sensed : List Nat) : (u.rampExpires ch sensed).Steady s := by
  unfold State.rampExpires
  dsimp only
  split <;> exact h

theorem periodEnds (h : u.Steady s) (b : Bool) : (u.periodEnds b).Steady s := by
  unfold State.periodEnds
  repeat' split
  all_goals exact h

theorem attemptEnds (h : u.Steady s) (b : Bool) : (u.attemptEnds b).Steady s := by
  unfold State.attemptEnds
  repeat' split
  all_goals exact h

/-! ### Requests -/

theorem selectTarget (h : u.Steady s) (i : Nat) : (u.selectTarget i).1.Steady s := by
  unfold State.selectTarget
  repeat' split
  all_goals exact h

theorem openZones (h : u.Steady s) : u.openZones.Steady s := by
  unfold State.openZones
  split <;> exact h

theorem serviceDone (h : u.Steady s) (i : Nat) : (u.serviceDone i).1.Steady s := by
  unfold State.serviceDone
  repeat' split
  any_goals exact h
  exact h.writeItem _ _

theorem ackHead (h : u.Steady s) : u.ackHead.1.Steady s := by
  unfold State.ackHead
  split <;> exact h

theorem ackNotice (h : u.Steady s) (n : Nat) : (u.ackNotice n).1.Steady s := by
  unfold State.ackNotice
  repeat' split
  all_goals exact h

theorem clearValveFault (h : u.Steady s) (ch : Nat) : (u.clearValveFault ch).1.Steady s := by
  unfold State.clearValveFault
  repeat' split
  all_goals exact h

theorem driveTest (h : u.Steady s) (ch c d : Nat) : (u.driveTest ch c d).1.Steady s := by
  unfold State.driveTest
  repeat' split
  all_goals exact h

theorem driveTestStop (h : u.Steady s) : u.driveTestStop.1.Steady s := by
  unfold State.driveTestStop
  split <;> exact h

/-! ### Requests on tables -/

theorem writeChannel (h : u.Steady s) (ch : Nat) (c : ChannelConfig) : (u.writeChannel ch c).Steady s := by
  unfold State.writeChannel
  rw [State.handBack_frame]
  exact h

theorem writeGeometry (h : u.Steady s) (g : Geometry) : (u.writeGeometry g).Steady s :=
  recompute (u := State.report { u with ret := _ } _) h

/-- What a changed setting does at its owner keeps T, or works it out afresh. -/
theorem settingChanged (h : u.Steady s) (before : Settings) (n : Nat) : (u.settingChanged before n).Steady s := by
  unfold State.settingChanged
  split
  case h_1 =>
    rw [State.busRejoined_frame]
    exact h
  case h_2 =>
    rw [State.demandWritten_frame]
    exact h
  case h_3 =>
    rw [State.demandWritten_frame]
    exact h
  case h_15 => exact h.judgeEngine
  case h_16 => exact h.autoIdleWritten _
  case h_17 => exact h.shutdownWritten _
  case h_18 => exact h.judgeActivity
  case h_19 => exact workOutTorque h.1
  case h_20 => exact h.judgeOil
  case h_21 => exact workOutTorque h.1
  all_goals exact h

/-- A write of the idle torque or the oil derate torque works T out afresh; any other leaves both figures (R109). -/
theorem applySetting (h : u.Steady s) (v : Int) (n : Nat) : (u.applySetting n (u.ret.settings.written v n)).Steady s := by
  by_cases hx : u.ret.settings.written v n = u.ret.settings
  · rw [hx, State.applySetting_same]
    exact h
  rw [State.applySetting_changed hx]
  by_cases hn : n = 25 ∨ n = 27
  · rcases hn with rfl | rfl <;> exact workOutTorque h.1
  · obtain ⟨hidle, hoil⟩ := u.ret.settings.written_torques v (not_or.mp hn)
    have hset : (u.setSettings (u.ret.settings.written v n)).Steady s := ⟨h.1, fun hs => (h.2 hs).setRet rfl rfl hidle hoil⟩
    exact hset.settingChanged _ _

theorem writeSetting (h : u.Steady s) (n : Nat) (v : Int) : (u.writeSetting n v).1.Steady s := by
  unfold State.writeSetting
  split
  · exact h
  · exact h.applySetting v n

/-- A PUT_ENTRY leaves the state to one write of its table, or is refused and writes nothing. -/
theorem putEntry (h : u.Steady s) (table i : Nat) (p : List Byte) : (u.putEntry table i p).1.Steady s := by
  unfold State.putEntry State.putZone State.putSector State.putSurface State.putItem State.putSource State.putMode
    State.putChannel State.putGeometry State.putSetting
  dsimp only
  repeat' split
  any_goals exact h
  · exact h.writeItem _ _
  · exact h.writeSource _ _
  · exact h.writeMode _ _
  · exact h.writeChannel _ _
  · exact h.writeGeometry _
  · exact h.writeSetting _ _

/-- A RETIRE_ENTRY, likewise. -/
theorem retireEntry (h : u.Steady s) (table i : Nat) : (u.retireEntry table i).1.Steady s := by
  have hitem := h.retireItem i
  unfold State.retireEntry State.retireZone State.retireSector State.retireSurface State.retireSourceEntry
    State.retireChannel State.retireGeometry State.retireSetting
  dsimp only
  repeat' split
  any_goals exact h
  · exact hitem
  · exact h.writeSource _ _
  · exact h.writeChannel _ _
  · exact h.writeGeometry _
  · exact h.writeSetting _ _

/-! ### CLEAR_RETAINED and the starts -/

theorem settingDefaults (h : u.Steady s) (l : List Nat) : (l.foldl State.settingDefault u).Steady s :=
  foldl (fun _ n hv => hv.applySetting _ n) l h

theorem clearBus (h : u.Steady s) : u.clearBus.Steady s := by
  have hslots := foldl (op := State.retireSource) (fun _ i hv => hv.writeSource i _) (List.range 8) h
  unfold State.clearBus
  exact hslots.settingDefaults _

theorem clearSlew (h : u.Steady s) : u.clearSlew.Steady s := by
  unfold State.clearSlew
  exact h.settingDefaults _

/-- The Economy Controller takes its defaults and works T out last (R127). -/
theorem clearEconomy (h : u.SameMeters s) : u.clearEconomy.Steady s := by
  unfold State.clearEconomy
  refine workOutTorque ?_
  rw [State.judgeOil_frame, State.judgeActivity_frame, State.judgeEngine_frame]
  exact h

theorem clearZones (h : u.Steady s) : u.clearZones.Steady s := h

theorem clearLimiter (h : u.Steady s) : u.clearLimiter.Steady s := h

theorem clearGrade (h : u.Steady s) : u.clearGrade.Steady s := h

/-- The Service Schedule retires every item and has T worked out (08 R144). -/
theorem clearService (h : u.Steady s) : u.clearService.Steady s := by
  unfold State.clearService
  exact workOutTorque h.1

theorem clearValves (h : u.Steady s) : u.clearValves.Steady s := by
  have hchannels := foldl (op := State.channelDefault) (fun _ ch hv => hv.writeChannel ch _) (List.range 4) h
  unfold State.clearValves
  exact hchannels

theorem clearNoticeSettings (h : u.Steady s) : u.clearNoticeSettings.Steady s := h

theorem clearRetained (h : u.Steady s) : u.clearRetained.Steady s := by
  have hgrade := (h.clearBus.clearSlew.writeGeometry defaultGeometry).clearZones.clearLimiter.clearGrade
  have hvalves := (clearEconomy hgrade.1).clearService.clearValves
  unfold State.clearRetained
  exact hvalves.clearNoticeSettings

theorem clearRetainedRequest (h : u.Steady s) : u.clearRetainedRequest.1.Steady s := by
  unfold State.clearRetainedRequest
  split
  · exact h
  split
  · exact h
  · dsimp only
    exact h.clearRetained

/-- A start keeps the meters and works T out afresh (R126). -/
theorem start (h : u.SameMeters s) (extra : List Report) : (u.start extra).Steady s := by
  refine ⟨h, fun _ => ?_⟩
  unfold State.start
  exact rfl

/-! ### Every command but QUANTUM_COMPLETION and POWER_ON -/

theorem commit {t : State} {f : State → State} (ht : s.commit f = .next t) (hf : ∀ u : State, u.Steady s → (f u).Steady s) :
    t.Steady s :=
  State.commit_keeps (P := fun u => u.Steady s) (fun _ hu => hu) hf (refl s) ht

theorem commitPins {t : State} {p : Pins} {f : State → State} (ht : s.commitPins p f = .next t)
    (hf : ∀ u : State, u.Steady s → (f u).Steady s) : t.Steady s :=
  State.commitPins_keeps (p := p) (P := fun u => u.Steady s) (fun _ hu => hu) hf (refl s) ht

/-- A timer's expiry is steady where its effect is. -/
theorem commitExpire {t : State} {pick : State → Timer} {f : State → State}
    (ht : s.commit (fun s => s.expire (pick s) f) = .next t) (hf : ∀ u : State, u.Steady s → (f u).Steady s) : t.Steady s :=
  commit ht fun _ hu => State.expire_keeps (P := fun u => u.Steady s) (fun _ _ hv => hv) hf hu

theorem exec {t : State} (c : Instr) (hquantum : c ≠ .quantumCompletion) (hpower : c ≠ .powerOn)
    (ht : exec c s = .next t) : t.Steady s := by
  cases c
  all_goals simp only [Machine.exec] at ht
  -- the machine bus, the Slew Counter, the Zone Table and the Grade Guide
  case frameArrival f =>
    refine commit ht fun u hu => ?_
    split
    · exact hu.frameArrives f
    · exact hu
  case sourceTimeoutExpiry slot =>
    exact commitExpire (pick := fun s => (s.slot slot.val).timer) ht fun _ hu => hu.sourceLost _
  case periodTimerExpiry b => exact commitExpire (pick := fun s => s.mbp.period) ht fun _ hu => hu.periodEnds b
  case transmissionAttemptEnd b => exact commit ht fun _ hu => hu.attemptEnds b
  case recoveryTimerExpiry => exact commitExpire (pick := fun s => s.mbp.recovery) ht fun _ hu => hu
  case slewStep a b =>
    refine commitPins ht fun u hu => ?_
    split <;> exact hu
  case indexMark =>
    refine commitPins ht fun u hu => ?_
    split <;> exact hu
  case slewZFall => exact commitPins ht fun _ hu => hu
  case gateTimerExpiry => exact commitExpire (pick := fun s => s.sc.gate) ht fun _ hu => hu.gateExpires
  case editTimerExpiry => exact commitExpire (pick := fun s => s.zt.edit) ht fun _ hu => hu
  case holdTimerExpiry =>
    refine commitExpire (pick := fun s => s.gg.hold) ht fun u hu => ?_
    split <;> exact hu
  -- the Economy Controller
  case autoIdleTimerExpiry =>
    refine commitExpire (pick := fun s => s.ec.autoIdle) ht fun u hu => ?_
    split
    · exact ecoMove hu.1 _ _ _ _
    · exact hu
  case shutdownTimerLeft =>
    refine commit ht fun u hu => ?_
    split
    · exact hu
    split
    · exact hu
    · exact (hu.elapse _).report _
  case shutdownTimerExpiry =>
    refine commitExpire (pick := fun s => s.ec.shutdown) ht fun u hu => ?_
    split
    · exact ecoMove hu.1 _ _ _ _
    · exact hu
  case shutdownWaitExpiry =>
    refine commitExpire (pick := fun s => s.ec.wait) ht fun u hu => ?_
    split
    · exact ecoMove hu.1 _ _ _ _
    · exact hu
  case quantumCompletion => exact absurd rfl hquantum
  case setWorkMode i =>
    refine commit ht fun u hu => ?_
    split
    · exact hu.selectMode i.toNat
    · exact hu
  -- the Notice Unit and the Valve Drive
  case flashTimerExpiry lamp => exact commitExpire (pick := fun s => (s.nu.lamp lamp).flash) ht fun _ hu => hu
  case stretchTimerExpiry lamp => exact commitExpire (pick := fun s => (s.nu.lamp lamp).stretch) ht fun _ hu => hu
  case ackHead => exact commit ht fun _ hu => hu.ackHead
  case ackNotice n => exact commit ht fun _ hu => hu.ackNotice n.toNat
  case rampIntervalExpiry ch sensed =>
    exact commitExpire (pick := fun s => (s.vd.chan ch.val).ramp) ht fun _ hu => hu.rampExpires ch.val sensed
  case overCurrent ch sensed =>
    refine commit ht fun u hu => ?_
    split <;> exact hu
  case supplyVoltageChange v => exact commitPins ht fun _ hu => hu
  case downQualificationExpiry => exact commitExpire (pick := fun s => s.vd.downQual) ht fun _ hu => hu
  case upQualificationExpiry => exact commitExpire (pick := fun s => s.vd.upQual) ht fun _ hu => hu
  case durationTimerExpiry => exact commitExpire (pick := fun s => s.vd.duration) ht fun _ hu => hu
  case clearValveFault ch => exact commit ht fun _ hu => hu.clearValveFault ch.toNat
  case driveTest ch c d => exact commit ht fun _ hu => hu.driveTest ch.toNat c.toNat d.toNat
  case driveTestStop => exact commit ht fun _ hu => hu.driveTestStop
  case serviceKeyAsserted => exact commitPins ht fun _ hu => hu
  case serviceKeyRelease => exact commitPins ht fun _ hu => hu
  -- the Controller Link and the requests on tables
  case transactionStart =>
    refine commitPins ht fun u hu => ?_
    split <;> exact hu
  case transactionEnd sdi => exact commitPins ht fun _ hu => hu
  case responseReady =>
    refine commit ht fun u hu => ?_
    rw [State.prepare_frame]
    exact hu
  case putEntry table i p => exact commit ht fun _ hu => hu.putEntry table.toNat i.toNat p
  case retireEntry table i => exact commit ht fun _ hu => hu.retireEntry table.toNat i.toNat
  case openZones => exact commit ht fun _ hu => hu.openZones
  case closeZones =>
    refine commit ht fun u hu => ?_
    split <;> exact hu
  case selectTarget i => exact commit ht fun _ hu => hu.selectTarget i.toNat
  case serviceDone i => exact commit ht fun _ hu => hu.serviceDone i.toNat
  -- resets, power and CLEAR_RETAINED
  case clearRetained => exact commit ht fun _ hu => hu.clearRetainedRequest
  case restart =>
    cases ht
    split
    · exact start ⟨rfl, rfl⟩ _
    · exact refl s
  case resetNAsserted =>
    cases ht
    split <;> exact refl s
  case reset =>
    cases ht
    split
    · exact refl s
    · exact start (u := s.setResetLow false) ⟨rfl, rfl⟩ _
  case powerOn => exact absurd rfl hpower
  case powerLoss =>
    cases ht
    exact refl s
  case backupDropped =>
    cases ht
    split <;> exact refl s
  all_goals exact commit ht fun _ hu => hu

end State.Steady

/-! ### QUANTUM_COMPLETION and POWER_ON -/

/-- A completion meters the quantum and serves the hour items, or does nothing. -/
theorem exec_quantumCompletion_cases {s t : State} (ht : exec .quantumCompletion s = .next t) :
    t.Steady s ∨ t = (s.elapse (36000 - (s.ec.partialMs + s.ec.overMs))).completeQuantum.deliver := by
  by_cases hrun : s.phase = .running
  · by_cases hmetering : s.metering = true
    · rw [exec_quantumCompletion_metering hrun hmetering] at ht
      cases ht
      exact .inr rfl
    · rw [exec_quantumCompletion_paused hrun (by simpa using hmetering)] at ht
      cases ht
      exact .inl (.refl s)
  · rw [exec_quantumCompletion_stopped hrun] at ht
    cases ht
    exact .inl (.refl s)

/-- The hour items that a quantum moves call for a derate report where T depends on them (08 R135). -/
theorem State.TorqueSound.completeQuantum {s : State} (h : s.TorqueSound) : s.completeQuantum.TorqueSound := by
  have hmetered (c : LoadClass) (partialMs overMs : Nat) : State.TorqueSound
      { s with
        ret := s.ret.metered c
        ec := { s.ec with partialMs := partialMs, overMs := overMs, pumpSum := 0, pumpCount := 0 } } := h
  unfold State.completeQuantum State.serviceQuantum
  exact (hmetered _ _ _).serviceEvent _ fun _ => rfl

/-- A metered quantum is one more of the engine meter, weighted by its load class, up to the meter's top (R122). -/
theorem State.completeQuantum_meters (s : State) :
    s.completeQuantum.ret.engineMeter = (s.ret.metered s.loadClass).engineMeter ∧
      s.completeQuantum.ret.weightedMeter = (s.ret.metered s.loadClass).weightedMeter := by
  unfold State.completeQuantum State.serviceQuantum
  rw [State.serviceEvent_frame]
  exact ⟨rfl, rfl⟩

/-- A power-on starts the blocks from the contents that it judged (11 R184). -/
theorem exec_powerOn_ret {s t : State} (ht : exec .powerOn s = .next t) : t.ret = s.powerUp.ret ∧ t.TorqueSound := by
  have hsound : s.powerUp.TorqueSound := by
    unfold State.powerUp State.start
    exact rfl
  cases ht
  split <;> exact ⟨rfl, hsound⟩

/-! ### The invariants -/

theorem State.TorqueSound.exec {s t : State} (h : s.TorqueSound) (c : Instr) (ht : exec c s = .next t) : t.TorqueSound := by
  by_cases hquantum : c = .quantumCompletion
  · subst hquantum
    rcases exec_quantumCompletion_cases ht with hsteady | rfl
    · exact hsteady.2 h
    · exact State.TorqueSound.completeQuantum (s := s.elapse _) h
  by_cases hpower : c = .powerOn
  · subst hpower
    exact (exec_powerOn_ret ht).2
  · exact (State.Steady.exec c hquantum hpower ht).2 h

/-- A tick moves neither a figure nor T. -/
theorem State.idle_steady (s : State) : s.idle.Steady s := by
  unfold State.idle
  split <;> exact .refl s

/-- Meters that are in their bounds and have not gone back (R122). -/
def Retained.MetersGrow (r' r : Retained) : Prop :=
  r'.MetersSound ∧ r.engineMeter ≤ r'.engineMeter ∧ r.weightedMeter ≤ r'.weightedMeter

theorem Retained.MetersSound.of_same {s t : State} (h : s.ret.MetersSound) (hsame : t.SameMeters s) :
    t.ret.MetersGrow s.ret := by
  obtain ⟨hengine, hweighted⟩ := hsame
  rw [Retained.MetersGrow, Retained.MetersSound, hengine, hweighted]
  exact ⟨h, le_rfl, le_rfl⟩

/-- A quantum adds 1 to the one meter and 50 to 150 to the other, or nothing to either. -/
theorem Retained.MetersSound.metered {r : Retained} (h : r.MetersSound) (c : LoadClass) : (r.metered c).MetersGrow r := by
  obtain ⟨htop, hlo, hhi⟩ := h
  obtain ⟨hleast, hmost⟩ := c.weight_bounds
  by_cases hlt : r.engineMeter < 4000000000
  all_goals
    simp only [Retained.MetersGrow, Retained.MetersSound, Retained.metered, engineMeterTop, hlt, if_true, if_false]
    omega

theorem exec_quantumCompletion_meters {s t : State} (h : s.ret.MetersSound) (ht : exec .quantumCompletion s = .next t) :
    t.ret.MetersGrow s.ret := by
  rcases exec_quantumCompletion_cases ht with hsteady | rfl
  · exact h.of_same hsteady.1
  · obtain ⟨hengine, hweighted⟩ := (s.elapse (36000 - (s.ec.partialMs + s.ec.overMs))).completeQuantum_meters
    have hgrow := h.metered (s.elapse (36000 - (s.ec.partialMs + s.ec.overMs))).loadClass
    rw [Retained.MetersGrow, Retained.MetersSound, State.deliver_ret, hengine, hweighted]
    exact hgrow

/-- What a step can do to the meters. -/
theorem step_meters {s t : State} (h : s.ret.MetersSound) (ht : step s = .next t) :
    t.ret.MetersGrow s.ret ∨ (s.pending.head? = some .powerOn ∧ s.backupDropped = true ∧ t.ret = defaultRetained) := by
  unfold step at ht
  split at ht
  · cases ht
    exact .inl (h.of_same s.idle_steady.1)
  next c rest hpending =>
    by_cases hquantum : c = .quantumCompletion
    · subst hquantum
      exact .inl (exec_quantumCompletion_meters (s := { s with pending := rest }) h ht)
    by_cases hpower : c = .powerOn
    · subst hpower
      have hret : t.ret = s.powerUp.ret := (exec_powerOn_ret ht).1
      by_cases hlost : s.backupDropped = true
      · exact .inr ⟨by rw [hpending]; rfl, hlost, hret.trans (State.powerUp_ret_lost hlost)⟩
      · rw [State.powerUp_ret_kept (by simpa using hlost)] at hret
        exact .inl (h.of_same ⟨congrArg (·.engineMeter) hret, congrArg (·.weightedMeter) hret⟩)
    · exact .inl (h.of_same (State.Steady.exec (s := { s with pending := rest }) c hquantum hpower ht).1)

end Sys2Proof.Machine

open Sys2Proof.Machine in
/-- Settles O10: a metered quantum adds to both meters (`Retained.MetersSound.metered`), contents found lost start at 0
(`State.powerUp_ret_lost`), and every other command leaves both (`State.Steady.exec`). -/
theorem metersKept : Obligations.MetersKept := by
  intro s t h ht
  rcases step_meters h ht with ⟨hsound, hgrow⟩ | ⟨hhead, hlost, hret⟩
  · exact ⟨hsound, .inl hgrow⟩
  · rw [hret]
    exact ⟨by decide, .inr ⟨hhead, hlost, rfl, rfl⟩⟩

open Sys2Proof.Machine in
/-- Settles O12: every command keeps T (`State.TorqueSound.exec`): whatever moves a figure works T out afresh
(`State.Steady.workOutTorque`), and an item that moves without a derate report has put the same derate into T
(`criticalDerate_of_not_moved`). -/
theorem torqueLimitKept : Obligations.TorqueLimitKept := by
  intro s t h ht
  unfold step at ht
  split at ht
  · cases ht
    exact s.idle_steady.2 h
  · next c rest _ => exact State.TorqueSound.exec (s := { s with pending := rest }) h c ht
end

-- ==== Proofs of sitting 7: the tick ====

section
/-! PROOFS. An empty queue is a tick (log entry 2): a running part lets one millisecond pass. -/

namespace Sys2Proof.Machine

section
variable {s : State}

theorem step_empty (h : s.pending = []) : step s = .next s.idle := by
  unfold step
  rw [h]

theorem State.idle_running (h : s.phase = .running) : s.idle = s.elapse 1 := by
  unfold State.idle
  rw [h]

theorem State.idle_stopped (h : s.phase ≠ .running) : s.idle = s := by
  unfold State.idle
  split
  · next hrun => exact absurd hrun h
  · rfl

end

/-! ### Running time (07 R120; log entry 3) -/

theorem Ec.elapse_paused (e : Ec) (dt : Nat) : (e.elapse false dt).partialMs = e.partialMs ∧ (e.elapse false dt).overMs = e.overMs :=
  ⟨rfl, rfl⟩

theorem Ec.elapse_filling {e : Ec} (h : e.partialMs < 35999) :
    (e.elapse true 1).partialMs = e.partialMs + 1 ∧ (e.elapse true 1).overMs = e.overMs := by
  simp only [Ec.elapse, accrued, Config.quantum, if_true]
  omega

/-- A full partial quantum waits for its completion, and running time beyond it is kept beside it. -/
theorem Ec.elapse_full {e : Ec} (h : 35999 ≤ e.partialMs) :
    (e.elapse true 1).partialMs = e.partialMs ∧ (e.elapse true 1).overMs = e.overMs + 1 := by
  simp only [Ec.elapse, accrued, Config.quantum, if_true]
  omega

end Sys2Proof.Machine

open Sys2Proof.Machine in
/-- Settles O2: a part that does not run stands still (`State.idle_stopped`); a running one lets a millisecond pass, which
`State.elapse` gives field by field, the running time going to the partial quantum or beside it (`Ec.elapse_filling`,
`Ec.elapse_full`). -/
theorem emptyQueueTick : Obligations.EmptyQueueTick := by
  intro s hempty
  refine ⟨fun hstopped => by rw [step_empty hempty, State.idle_stopped hstopped], fun hrun => ?_⟩
  have htick : step s = .next (s.elapse 1) := by rw [step_empty hempty, State.idle_running hrun]
  refine ⟨s.elapse 1, htick, rfl, rfl, rfl, rfl, rfl, rfl, rfl, rfl, rfl, rfl, rfl, rfl, rfl, rfl, rfl, rfl, rfl, rfl,
    fun hpaused => ?_, fun hmetering hlt => ?_, fun hmetering hle => ?_⟩
  all_goals rw [State.elapse_ec]
  · rw [hpaused]
    exact s.ec.elapse_paused 1
  · rw [hmetering]
    exact Ec.elapse_filling hlt
  · rw [hmetering]
    exact Ec.elapse_full hle
end

-- ==== Proofs of sitting 7: the economy timers ====

section
/-! PROOFS. The auto-idle, shutdown and wait timers move the economy state (07 R113 to R115, 10 R172). -/

namespace Sys2Proof.Machine

section
variable {s : State} {left : Nat}

/-- A move of the economy state makes the only reports of its step (R115). -/
theorem State.ecoMove_eq (h : s.inbox = []) (st : EconomyState) (auto shut wait : Timer) :
    s.ecoMove st auto shut wait =
      ({ s with
        ec := { s.ec with state := st, autoIdle := auto, shutdown := shut, wait := wait }
        vd := if st.allowsTest then s.vd else s.vd.endTest
        inbox := [.condition 85 (st == .idling), .condition 55 (st == .shutdownRequested)] } : State).workOutTorque := by
  unfold State.ecoMove
  exact congrArg State.workOutTorque (State.report_first (by exact h) _)

theorem exec_autoIdleTimerExpiry (hrun : s.phase = .running) (hleft : s.ec.autoIdle = some left)
    (hstate : s.ec.state = .settling) :
    exec .autoIdleTimerExpiry s =
      .next ((s.elapse left).ecoMove .idling none s.ret.settings.shutdownStart none).deliver := by
  refine (State.commit_expire hrun (pick := fun s => s.ec.autoIdle) hleft _).trans ?_
  exact congrArg (fun t : State => Host.Outcome.next t.deliver) (if_pos hstate)

theorem exec_shutdownTimerExpiry (hrun : s.phase = .running) (hleft : s.ec.shutdown = some left)
    (hstate : s.ec.state = .idling) :
    exec .shutdownTimerExpiry s =
      .next ((s.elapse left).ecoMove .shutdownRequested none none (some Config.shutdownWait)).deliver := by
  refine (State.commit_expire hrun (pick := fun s => s.ec.shutdown) hleft _).trans ?_
  exact congrArg (fun t : State => Host.Outcome.next t.deliver) (if_pos hstate)

theorem exec_shutdownWaitExpiry (hrun : s.phase = .running) (hleft : s.ec.wait = some left)
    (hstate : s.ec.state = .shutdownRequested) :
    exec .shutdownWaitExpiry s =
      .next ((s.elapse left).ecoMove .idling none s.ret.settings.shutdownStart none).deliver := by
  refine (State.commit_expire hrun (pick := fun s => s.ec.wait) hleft _).trans ?_
  exact congrArg (fun t : State => Host.Outcome.next t.deliver) (if_pos hstate)

/-- Stated for every stretch of time: with one written out the kernel would count down from it. -/
theorem State.elapse_report (h : s.inbox = []) (dt : Nat) (rs : List Report) :
    (s.elapse dt).report rs = { s.elapse dt with inbox := rs } :=
  State.report_first (s := s.elapse dt) h rs

theorem exec_shutdownTimerLeft (hrun : s.phase = .running) (hleft : s.ec.shutdown = some left) (hle : 30000 ≤ left) :
    exec .shutdownTimerLeft s = .next ((s.elapse (left - 30000)).report [.condition 55 true]).deliver := by
  have hlater : ¬left < Config.shutdownWarning := Nat.not_lt.mpr hle
  simp only [exec, execShutdownTimerLeft, State.commit_running hrun, hleft, if_neg hlater]
  rfl

end

end Sys2Proof.Machine

open Sys2Proof.Machine in
/-- Settles O47: at each expiry the time left passes and the state moves (`State.ecoMove_eq`), which has T worked out afresh; 30 s
before the shutdown its notice is reported (`exec_shutdownTimerLeft`). -/
theorem economyTimersMove : Obligations.EconomyTimersMove := by
  intro s left h u delay shut idle asked
  have hin : u.inbox = [] := h.2
  have hmoves {st : EconomyState} {auto shut wait : Timer} {t : State} (ht : u.ecoMove st auto shut wait = t) :
      (Host.Outcome.next (u.ecoMove st auto shut wait).deliver : Result) = .next t.deliver := by rw [ht]
  refine ⟨fun hstate hleft => ?_, fun hstate hleft => ?_, fun hstate hleft => ?_, fun hleft hle => ?_⟩
  · exact (exec_autoIdleTimerExpiry h.1 hleft hstate).trans (hmoves (State.ecoMove_eq hin _ _ _ _))
  · exact (exec_shutdownTimerExpiry h.1 hleft hstate).trans (hmoves (State.ecoMove_eq hin _ _ _ _))
  · exact (exec_shutdownWaitExpiry h.1 hleft hstate).trans (hmoves (State.ecoMove_eq hin _ _ _ _))
  · exact (exec_shutdownTimerLeft h.1 hleft hle).trans
      (congrArg (fun t : State => Host.Outcome.next t.deliver) (State.elapse_report h.2 _ _))
end

-- ==== Proofs of sitting 7: the work modes ====

section
/-! PROOFS. PUT_ENTRY and RETIRE_ENTRY on WORK_MODES, and SET_WORK_MODE (07 R107, R108, R113). -/

namespace Sys2Proof.Machine

/-! ### The figures that a payload gives (R107) -/

section
variable {speed torque : Nat} (hspeed : speed < 65536) (htorque : torque < 256)
include hspeed htorque

theorem fieldNat_modePayload :
    fieldNat (toBe 2 speed ++ toBe 1 torque) 0 2 = speed ∧ fieldNat (toBe 2 speed ++ toBe 1 torque) 2 1 = torque := by
  have hfields : field (toBe 2 speed ++ toBe 1 torque) 0 2 = toBe 2 speed ∧
      field (toBe 2 speed ++ toBe 1 torque) 2 1 = toBe 1 torque := ⟨rfl, rfl⟩
  rw [fieldNat, fieldNat, hfields.1, hfields.2]
  exact ⟨beNat_toBe hspeed, beNat_toBe htorque⟩

theorem workModeOf_payload :
    workModeOf (toBe 2 speed ++ toBe 1 torque) =
      { speed := max 800 (min 2100 speed), torque := max 40 (min 100 torque) } := by
  obtain ⟨hs, ht⟩ := fieldNat_modePayload hspeed htorque
  rw [workModeOf, hs, ht, clampNat_natCast (by decide), clampNat_natCast (by decide)]

theorem okOr_workModeClamped :
    okOr (workModeClamped (toBe 2 speed ++ toBe 1 torque)) =
      if max 800 (min 2100 speed) = speed ∧ max 40 (min 100 torque) = torque then .ok else .okClamped := by
  obtain ⟨hs, ht⟩ := fieldNat_modePayload hspeed htorque
  refine okOr_ite ?_
  rw [workModeClamped, workModeOf_payload hspeed htorque, hs, ht, Bool.eq_iff_iff]
  simp [imp_iff_not_or]

end

/-! ### The requests -/

section
variable {s : State} {i : Nat}

theorem State.putEntry_modes (s : State) (i : Nat) {p : List Byte} (hp : p.length = 3) : s.putEntry 6 i p = s.putMode i p := by
  simp [State.putEntry, tableRefused, putLength, hp]

theorem State.putMode_badIndex (p : List Byte) (h : 4 ≤ i) : s.putMode i p = (s, .badIndex, []) := if_pos h

theorem State.putMode_writes (p : List Byte) (h : i < 4) :
    s.putMode i p = (s.writeMode i (workModeOf p), okOr (workModeClamped p), indexWritten i) := if_neg (by omega)

theorem State.retireEntry_modes (s : State) (i : Nat) : s.retireEntry 6 i = (s, .badTable, []) := rfl

/-- The figures of a mode that is not selected do not enter T. -/
theorem State.writeMode_other (m : WorkMode) (h : s.ret.selectedMode ≠ i) :
    s.writeMode i m = { s with ret := { s.ret with modes := s.ret.modes.set i m } } := if_neg h.symm

theorem State.writeMode_selected (m : WorkMode) (h : s.ret.selectedMode = i) :
    s.writeMode i m = ({ s with ret := { s.ret with modes := s.ret.modes.set i m } } : State).workOutTorque := if_pos h.symm

end

/-! ### The selection (R108, R113) -/

section
variable {s : State}

/-- The mode is selected. -/
def State.withMode (s : State) (i : Nat) : State := { s with ret := { s.ret with selectedMode := i } }

theorem State.selectMode_stays (h : s.ec.state = .stopped ∨ s.ec.state = .working ∨ s.ec.state = .shutdownRequested) (i : Nat) :
    s.selectMode i = (s.withMode i).workOutTorque := by
  unfold State.selectMode
  rcases h with h | h | h <;> rw [h] <;> rfl

theorem State.selectMode_settling (h : s.ec.state = .settling) (i : Nat) :
    s.selectMode i = ({ s.withMode i with
      ec := { s.ec with autoIdle := some (s.ret.settings.autoIdleDelay * 1000) } } : State).workOutTorque := by
  unfold State.selectMode
  rw [h]
  rfl

theorem State.selectMode_idling (h : s.ec.state = .idling) (i : Nat) :
    s.selectMode i = (s.withMode i).ecoMove (if s.ret.settings.autoIdleDelay = 0 then .working else .settling)
      (if s.ret.settings.autoIdleDelay = 0 then none else some (s.ret.settings.autoIdleDelay * 1000)) none none := by
  unfold State.selectMode
  rw [h]
  dsimp only
  split <;> rfl

theorem exec_setWorkMode (hrun : s.phase = .running) {i : Byte} (hi : i.toNat < 4) :
    exec (.setWorkMode i) s = .next ((s.selectMode i.toNat).answer 8 .ok []).deliver := by
  simp only [exec, execSetWorkMode, State.commit_running hrun, if_pos hi]

theorem exec_setWorkMode_badIndex (h : s.Ready) {i : Byte} (hi : 4 ≤ i.toNat) :
    exec (.setWorkMode i) s = .next (s.answer 8 .badIndex []) := by
  simp only [exec, execSetWorkMode, State.commit_running h.1, if_neg (Nat.not_lt.mpr hi), State.deliver_answer_none h.2]

/-- A selection that reported nothing delivers nothing. -/
theorem exec_setWorkMode_silent (h : s.Ready) {i : Byte} (hi : i.toNat < 4) {t : State} (ht : s.selectMode i.toNat = t)
    (hin : t.inbox = s.inbox) : exec (.setWorkMode i) s = .next (t.answer 8 .ok []) := by
  rw [exec_setWorkMode h.1 hi, ht, State.deliver_answer_none (hin.trans h.2)]

end

end Sys2Proof.Machine

open Sys2Proof Sys2Proof.Machine in
/-- Settles O46: a payload gives the clamped figures (`workModeOf_payload`), which have T worked out where their mode is selected
(`State.writeMode_selected`); a selection acts by the economy state (`State.selectMode_settling`, `State.selectMode_idling`), and
an index beyond 3 and a RETIRE are refused. -/
theorem workModesWritten : Obligations.WorkModesWritten := by
  intro s i speed torque h hspeed htorque m put sel result delay
  have hlength : (toBe 2 speed ++ toBe 1 torque).length = 3 := by simp only [List.length_append, toBe_length]
  have hentry := s.putEntry_modes i.toNat hlength
  refine ⟨fun hi => ?_, fun hi => ⟨?_, exec_setWorkMode_badIndex h hi⟩, exec_retireEntry_refused h (s.retireEntry_modes _)⟩
  case refine_2 => exact exec_putEntry_refused h (hentry.trans (State.putMode_badIndex _ hi))
  have hput := hentry.trans (State.putMode_writes _ hi)
  rw [workModeOf_payload hspeed htorque, okOr_workModeClamped hspeed htorque, indexWritten_toNat] at hput
  refine ⟨fun hother => ?_, fun hselected => ?_, fun hstays => ?_, fun hsettling => ?_, fun hidling => ?_⟩
  · rw [State.writeMode_other m hother] at hput
    exact exec_putEntry_silent h rfl hput
  · rw [State.writeMode_selected m hselected] at hput
    exact exec_putEntry_silent h rfl hput
  · exact exec_setWorkMode_silent h hi (State.selectMode_stays hstays _) rfl
  · exact exec_setWorkMode_silent h hi (State.selectMode_settling hsettling _) rfl
  · obtain ⟨torque', target, hmove⟩ := (s.withMode i.toNat).ecoMove_withTorque
      (st := if delay = 0 then .working else .settling) (by split <;> simp) (if delay = 0 then none else some (delay * 1000))
    have hexec := exec_setWorkMode h.1 hi
    rw [State.selectMode_idling hidling, hmove] at hexec
    refine ⟨_, hexec, rfl, rfl, rfl, State.eq_of_inbox rfl h.2.symm, rfl, rfl, rfl, ?_⟩
    refine (State.deliver_notices _).trans (congrArg (fun rs => noticesAfter rs s.nu.notices) ?_)
    exact (congrArg (· ++ moveReports true) h.2).trans (List.nil_append _)
end

-- ==== Proofs of sitting 8: the service items through every step ====

section
/-! PROOFS. The Service Schedule through every step. Every event leaves an item in the state of its progress (08 R130, R131) and
leaves what requests write as it was; the requests that write items do it under the service key (08 R136). -/

namespace Sys2Proof.Machine

/-! ### The state that a progress gives (R130) -/

section
variable {interval lead grace p : Nat}

theorem itemStateOf_counting (h : p < interval - lead) : itemStateOf interval lead grace p = .counting := if_pos (by omega)

theorem itemStateOf_due (hlead : lead ≤ interval) (h : interval - lead ≤ p) (hlt : p < interval) :
    itemStateOf interval lead grace p = .due := by
  rw [itemStateOf, if_neg (by omega), if_pos hlt]

theorem itemStateOf_overdue (h : interval ≤ p) (hlt : p < interval + grace) :
    itemStateOf interval lead grace p = .overdue := by
  rw [itemStateOf, if_neg (by omega), if_neg (by omega), if_pos hlt]

theorem itemStateOf_critical (h : interval + grace ≤ p) : itemStateOf interval lead grace p = .critical := by
  rw [itemStateOf, if_neg (by omega), if_neg (by omega), if_neg (by omega)]

end

/-! ### Items in the state of their progress -/

/-- An item stands in the state that its progress gives. -/
def Item.StateSound (r : Retained) (it : Item) : Prop :=
  it.state = itemStateOf it.interval it.lead it.grace (it.progress r)

theorem Item.evaluated_stateSound (r : Retained) (it : Item) : (it.evaluated r).StateSound r := rfl

/-- The cycle bases read no meter, so a quantum leaves their items in their states. -/
theorem Item.StateSound.metered {r : Retained} {it : Item} (h : it.StateSound r) (hbasis : it.basis.hours = false)
    (c : LoadClass) : it.StateSound (r.metered c) := by
  have hprogress : it.progress (r.metered c) = it.progress r := by simp [Item.progress, hbasis]
  rw [Item.StateSound, hprogress]
  exact h

/-- A PUT evaluates the item that it places, whether it is new, amended or re-based (R138 to R140). -/
theorem Item.placed_stateSound (r : Retained) (old : Option Item) (it : Item) :
    (it.placed r old).StateSound r := by
  unfold Item.placed
  split
  · exact Item.evaluated_stateSound r _
  · split <;> exact Item.evaluated_stateSound r _

namespace Retained.ItemsSound

variable {r : Retained}

/-- An entry that is written with a sound item, or emptied, leaves the table sound. -/
theorem set (h : r.ItemsSound) (i : Nat) {e : Option Item} (he : ∀ it ∈ e, it.StateSound r) :
    Retained.ItemsSound { r with items := r.items.set i e } := by
  intro e' hmem
  rcases List.mem_or_eq_of_mem_set hmem with hold | rfl
  · exact h e' hold
  · exact he

/-- An event evaluates the items that it concerns; the others have to stand in their states already. -/
theorem served {concerns : ServiceBasis → Bool} (change : Item → Item)
    (hother : ∀ e ∈ r.items, ∀ it ∈ e, concerns it.basis = false → it.StateSound r) :
    Retained.ItemsSound { r with items := r.served concerns change } := by
  intro e' hmem it' hit'
  obtain ⟨e, he, rfl⟩ := List.mem_map.mp hmem
  obtain ⟨it, hit, rfl⟩ := Option.map_eq_some_iff.mp hit'
  by_cases hconcerns : concerns it.basis = true
  · rw [if_pos hconcerns]
    exact Item.evaluated_stateSound r _
  · rw [if_neg hconcerns]
    exact hother e he it hit (by simpa using hconcerns)

theorem empty (n : Nat) : Retained.ItemsSound { r with items := List.replicate n none } := by
  intro e hmem it hit
  rw [List.eq_of_mem_replicate hmem] at hit
  cases hit

end Retained.ItemsSound

/-! ### What every event keeps of the items -/

/-- The entries as the requests wrote them (R128). -/
def Retained.writtenItems (r : Retained) : List (Option Item) := r.items.map (Option.map Item.written)

theorem Retained.writtenItems_served (r : Retained) (concerns : ServiceBasis → Bool) {change : Item → Item}
    (hchange : ∀ it, (change it).written = it.written) :
    Retained.writtenItems { r with items := r.served concerns change } = r.writtenItems := by
  have hitem (it : Item) : (if concerns it.basis then (change it).evaluated r else it).written = it.written := by
    split
    · exact hchange it
    · rfl
  simp only [Retained.writtenItems, Retained.served, List.map_map]
  refine List.map_congr_left fun e _ => ?_
  cases e with
  | none => rfl
  | some it => exact congrArg some (hitem it)

/-- No entry is written, and where the items stood in the states of their progresses they do. -/
def Retained.ItemsKept (r' r : Retained) : Prop := r'.writtenItems = r.writtenItems ∧ (r.ItemsSound → r'.ItemsSound)

namespace Retained.ItemsKept

theorem refl (r : Retained) : r.ItemsKept r := ⟨rfl, id⟩

theorem trans {r'' r' r : Retained} (h : r''.ItemsKept r') (h' : r'.ItemsKept r) : r''.ItemsKept r :=
  ⟨h.1.trans h'.1, fun hr => h.2 (h'.2 hr)⟩

/-- The items and the meters, which their progresses read, stand. -/
theorem of_same {r' r : Retained} (hitems : r'.items = r.items) (hengine : r'.engineMeter = r.engineMeter)
    (hweighted : r'.weightedMeter = r.weightedMeter) : r'.ItemsKept r := by
  have hprogress (it : Item) : it.progress r' = it.progress r := by
    simp only [Item.progress, Retained.meterOf, hengine, hweighted]
  refine ⟨congrArg (List.map (Option.map Item.written)) hitems, fun hr e he it hit => ?_⟩
  rw [hprogress]
  exact hr e (hitems ▸ he) it hit

theorem served (r : Retained) (concerns : ServiceBasis → Bool) {change : Item → Item}
    (hchange : ∀ it, (change it).written = it.written) :
    Retained.ItemsKept { r with items := r.served concerns change } r :=
  ⟨r.writtenItems_served concerns hchange, fun hr => .served change fun e he it hit _ => hr e he it hit⟩

/-- A start evaluates every item (R144). -/
theorem evaluated (r : Retained) : r.evaluated.ItemsKept r := served r (fun _ => true) (change := id) fun _ => rfl

/-- A quantum moves both meters, and evaluates the items that read one (R132). -/
theorem meteredServed (r : Retained) (c : LoadClass) :
    Retained.ItemsKept { r.metered c with items := (r.metered c).served ServiceBasis.hours id } r :=
  ⟨(r.metered c).writtenItems_served ServiceBasis.hours fun _ => rfl,
    fun hr => .served id fun e he it hit hbasis => Item.StateSound.metered (hr e he it hit) hbasis c⟩

theorem foldl {α : Type} {op : State → α → State} (hop : ∀ (u : State) (a : α), (op u a).ret.ItemsKept u.ret) (l : List α)
    (s : State) : (l.foldl op s).ret.ItemsKept s.ret :=
  List.foldlRecOn (motive := fun t => t.ret.ItemsKept s.ret) l op (refl s.ret) fun u hu a _ => (hop u a).trans hu

/-! ### Events -/

theorem serviceEvent (s : State) (concerns : ServiceBasis → Bool) {change : Item → Item}
    (hchange : ∀ it, (change it).written = it.written) : (s.serviceEvent concerns change).ret.ItemsKept s.ret := by
  rw [State.serviceEvent_eq, State.derateReport_frame]
  exact served s.ret concerns hchange

theorem serviceReversal (s : State) : s.serviceReversal.ret.ItemsKept s.ret := serviceEvent s _ fun _ => rfl

theorem completeQuantum (s : State) : s.completeQuantum.ret.ItemsKept s.ret := by
  unfold State.completeQuantum State.serviceQuantum
  rw [State.serviceEvent_eq, State.derateReport_frame]
  exact meteredServed s.ret _

/-- A recompute may count a dig cycle (R133). -/
theorem recompute (s : State) : s.recompute.ret.ItemsKept s.ret := by
  unfold State.recompute
  dsimp only
  split
  · exact serviceEvent _ _ fun _ => rfl
  · exact refl s.ret

theorem tellConsumer (s : State) (i : Nat) (changed accepted : Bool) :
    (s.tellConsumer i changed accepted).ret.ItemsKept s.ret := by
  unfold State.tellConsumer
  split
  · split
    · exact recompute { s with pu := _ }
    · exact refl s.ret
  split
  · rw [State.ecSource_frame]
    exact of_same rfl rfl rfl
  · exact refl s.ret

theorem takeSample (f : CanFrame) (s : State) (i : Nat) : (State.takeSample f s i).ret.ItemsKept s.ret := by
  unfold State.takeSample
  split
  · exact tellConsumer ((s.setSlot i _).report _) _ _ _
  · exact tellConsumer ((s.setSlot i _).report _) _ _ _

theorem frameArrives (s : State) (f : CanFrame) : (s.frameArrives f).ret.ItemsKept s.ret :=
  foldl (takeSample f) _ { s with choice := _ }

theorem sourceLost (s : State) (i : Nat) : (s.sourceLost i).ret.ItemsKept s.ret :=
  tellConsumer ((s.setSlot i _).report _) _ _ _

theorem writeSource (s : State) (i : Nat) (x : SourceRecord) : (s.writeSource i x).ret.ItemsKept s.ret :=
  (tellConsumer (((s.setSource i x).setSlot i _).report _) _ _ _).trans (of_same rfl rfl rfl)

theorem puGate (s : State) (phi : Nat) (r : Bool) (w : Int) : (s.puGate phi r w).ret.ItemsKept s.ret :=
  recompute { s with pu := _ }

theorem ecGate (s : State) (w : Int) : (s.ecGate w).ret.ItemsKept s.ret := by
  rw [State.ecGate_frame]
  exact refl s.ret

/-- A gate may recompute the pose, and may count a reversal (R133). -/
theorem closeGate (s : State) (count : Nat) (r : Bool) : (s.closeGate count r).ret.ItemsKept s.ret := by
  have hgate (phi : Nat) (w : Int) : ((State.puGate { s with sc := s.sc.closed s.ret.settings } phi r w).ecGate w).ret.ItemsKept
      s.ret := (ecGate _ w).trans (puGate { s with sc := _ } phi r w)
  unfold State.closeGate
  dsimp only
  split
  · exact (serviceReversal _).trans (hgate _ _)
  · exact hgate _ _

theorem gateExpires (s : State) : s.gateExpires.ret.ItemsKept s.ret := by
  unfold State.gateExpires
  split <;> exact closeGate s _ _

theorem writeGeometry (s : State) (g : Geometry) : (s.writeGeometry g).ret.ItemsKept s.ret :=
  (recompute (State.report { s with ret := _ } _)).trans (of_same rfl rfl rfl)

theorem writeChannel (s : State) (ch : Nat) (c : ChannelConfig) : (s.writeChannel ch c).ret.ItemsKept s.ret := by
  rw [State.writeChannel_ret]
  exact of_same rfl rfl rfl

theorem selectMode (s : State) (i : Nat) : (s.selectMode i).ret.ItemsKept s.ret := by
  unfold State.selectMode
  dsimp only
  repeat' split
  all_goals exact of_same rfl rfl rfl

theorem driveTest (s : State) (ch c d : Nat) : (s.driveTest ch c d).1.ret.ItemsKept s.ret := by
  unfold State.driveTest
  repeat' split
  all_goals exact refl s.ret

theorem writeMode (s : State) (i : Nat) (m : WorkMode) : (s.writeMode i m).ret.ItemsKept s.ret := by
  unfold State.writeMode
  dsimp only
  split <;> exact of_same rfl rfl rfl

theorem writeSetting (s : State) (n : Nat) (v : Int) : (s.writeSetting n v).1.ret.ItemsKept s.ret := by
  unfold State.writeSetting
  split
  · exact refl s.ret
  · dsimp only
    rw [State.applySetting_ret]
    exact of_same rfl rfl rfl

end Retained.ItemsKept

/-! ### The requests that write items (R136) -/

/-- CLEAR_RETAINED retires every item (R144), and no owner that acts after the Service Schedule writes one. -/
theorem State.clearRetained_itemsSound (s : State) : s.clearRetained.ret.ItemsSound := by
  have hvalves (u : State) : u.clearValves.ret.ItemsKept u.ret := by
    have hchannels := Retained.ItemsKept.foldl (op := State.channelDefault) (fun u ch => .writeChannel u ch _) (List.range 4) u
    unfold State.clearValves
    exact (Retained.ItemsKept.of_same rfl rfl rfl).trans hchannels
  have hservice (u : State) : u.clearService.ret.ItemsSound := .empty 24
  have hnotices (u : State) : u.clearNoticeSettings.ret.ItemsKept u.ret := .of_same rfl rfl rfl
  unfold State.clearRetained
  exact ((hnotices _).trans (hvalves _)).2 (hservice _)

/-- Entries are written under the service key alone; and where the items stood in the states of their progresses they do. -/
def State.ItemsGuarded (t s : State) : Prop :=
  (s.pins.keyAsserted = false → t.ret.writtenItems = s.ret.writtenItems) ∧ (s.ret.ItemsSound → t.ret.ItemsSound)

namespace State.ItemsGuarded

theorem of_kept {t s : State} (h : t.ret.ItemsKept s.ret) : t.ItemsGuarded s := ⟨fun _ => h.1, h.2⟩

theorem of_keyed {t s : State} (hkey : ¬(!s.pins.keyAsserted) = true) (h : s.ret.ItemsSound → t.ret.ItemsSound) :
    t.ItemsGuarded s := ⟨fun hout => absurd (by rw [hout]; rfl) hkey, h⟩

theorem refl (s : State) : s.ItemsGuarded s := .of_kept (.refl s.ret)

theorem writeItem {s : State} (hkey : ¬(!s.pins.keyAsserted) = true) (i : Nat) {it : Item} (hit : it.StateSound s.ret) :
    (s.writeItem i it).ItemsGuarded s := by
  refine .of_keyed hkey fun hs => ?_
  rw [State.writeItem_frame]
  exact hs.set i fun _ h => Option.some.inj h ▸ hit

theorem serviceDone (s : State) (i : Nat) : (s.serviceDone i).1.ItemsGuarded s := by
  unfold State.serviceDone
  split
  · exact refl s
  next hkey =>
    repeat' split
    any_goals exact refl s
    exact writeItem hkey i (Item.evaluated_stateSound s.ret _)

theorem putItem (s : State) (i : Nat) (p : List Byte) : (s.putItem i p).1.ItemsGuarded s := by
  unfold State.putItem
  split
  · exact refl s
  next hkey =>
    repeat' split
    any_goals exact refl s
    exact writeItem hkey _ (Item.placed_stateSound s.ret _ _)

theorem retireItem (s : State) (i : Nat) : (s.retireItem i).1.ItemsGuarded s := by
  unfold State.retireItem
  split
  · exact refl s
  next hkey =>
    repeat' split
    any_goals exact refl s
    refine .of_keyed hkey fun hs => ?_
    rw [State.derateReport_frame]
    exact hs.set i fun _ h => nomatch h

theorem clearRetainedRequest (s : State) : s.clearRetainedRequest.1.ItemsGuarded s := by
  unfold State.clearRetainedRequest
  split
  · exact refl s
  next hkey =>
    split
    · exact refl s
    · exact .of_keyed hkey fun _ => s.clearRetained_itemsSound

/-! ### The requests on tables -/

theorem putEntry (s : State) (table i : Nat) (p : List Byte) : (s.putEntry table i p).1.ItemsGuarded s := by
  have hitem := putItem s i p
  unfold State.putEntry State.putZone State.putSector State.putSurface State.putSource State.putMode State.putChannel
    State.putGeometry State.putSetting
  dsimp only
  repeat' split
  any_goals exact .of_kept (.of_same rfl rfl rfl)
  · exact hitem
  · exact .of_kept (.writeSource s _ _)
  · exact .of_kept (.writeMode s _ _)
  · exact .of_kept (.writeChannel s _ _)
  · exact .of_kept (.writeGeometry s _)
  · exact .of_kept (.writeSetting s _ _)

theorem retireEntry (s : State) (table i : Nat) : (s.retireEntry table i).1.ItemsGuarded s := by
  have hitem := retireItem s i
  unfold State.retireEntry State.retireZone State.retireSector State.retireSurface State.retireSourceEntry
    State.retireChannel State.retireGeometry State.retireSetting
  dsimp only
  repeat' split
  any_goals exact .of_kept (.of_same rfl rfl rfl)
  · exact hitem
  · exact .of_kept (.writeSource s _ _)
  · exact .of_kept (.writeChannel s _ _)
  · exact .of_kept (.writeGeometry s _)
  · exact .of_kept (.writeSetting s _ _)

/-! ### Every command but a power-on that finds the contents lost -/

theorem commit {s t : State} {f : State → State} (ht : s.commit f = .next t) (hf : (f s).ItemsGuarded s) :
    t.ItemsGuarded s := by
  by_cases hp : s.phase = .running
  · rw [State.commit_running hp] at ht
    cases ht
    exact hf
  · rw [State.commit_stopped hp] at ht
    cases ht
    exact refl s

theorem commitKept {s t : State} {f : State → State} (ht : s.commit f = .next t) (hf : (f s).ret.ItemsKept s.ret) :
    t.ItemsGuarded s := commit ht (.of_kept hf)

theorem commitPins {s t : State} {p : Pins} {f : State → State} (ht : s.commitPins p f = .next t)
    (hf : ∀ u : State, (f u).ret.ItemsKept u.ret) : t.ItemsGuarded s := by
  by_cases hp : s.phase = .running
  · rw [State.commitPins_running hp] at ht
    cases ht
    exact .of_kept (hf { s with pins := p })
  · rw [State.commitPins_stopped hp] at ht
    cases ht
    exact .of_kept (.refl s.ret)

/-- A timer's expiry keeps the items where its effect does. -/
theorem commitExpire {s t : State} {pick : State → Timer} {f : State → State}
    (ht : s.commit (fun s => s.expire (pick s) f) = .next t) (hf : ∀ u : State, (f u).ret.ItemsKept u.ret) :
    t.ItemsGuarded s := by
  refine commitKept ht ?_
  cases pick s with
  | none => exact .refl s.ret
  | some left => exact hf (s.elapse left)

theorem exec {s t : State} (c : Instr) (hkept : c = .powerOn → s.backupDropped = false) (ht : exec c s = .next t) :
    t.ItemsGuarded s := by
  cases c
  all_goals simp only [Machine.exec] at ht
  -- the commands that reach the Service Schedule by an event
  case frameArrival f =>
    refine commitKept ht ?_
    split
    · exact .frameArrives s f
    · exact .refl s.ret
  case sourceTimeoutExpiry slot =>
    exact commitExpire (pick := fun s => (s.slot slot.val).timer) ht fun u => .sourceLost u _
  case gateTimerExpiry => exact commitExpire (pick := fun s => s.sc.gate) ht Retained.ItemsKept.gateExpires
  case quantumCompletion =>
    refine commitKept ht ?_
    split
    · exact .completeQuantum (s.elapse _)
    · exact .refl s.ret
  -- the requests that write items, and the other requests on tables
  case putEntry table i p => exact commit ht (putEntry s table.toNat i.toNat p)
  case retireEntry table i => exact commit ht (retireEntry s table.toNat i.toNat)
  case serviceDone i => exact commit ht (serviceDone s i.toNat)
  case clearRetained => exact commit ht (clearRetainedRequest s)
  -- the starts
  case restart =>
    cases ht
    split
    · exact .of_kept (.evaluated s.ret)
    · exact refl s
  case reset =>
    cases ht
    split
    · exact .of_kept (.refl s.ret)
    · exact .of_kept (.evaluated s.ret)
  case powerOn =>
    have hret := (exec_powerOn_ret ht).1.trans (State.powerUp_ret_kept (hkept rfl))
    exact .of_kept (hret ▸ .evaluated s.ret)
  case resetNAsserted =>
    cases ht
    split <;> exact .of_kept (.refl s.ret)
  case powerLoss =>
    cases ht
    exact .of_kept (.refl s.ret)
  case backupDropped =>
    cases ht
    split <;> exact .of_kept (.refl s.ret)
  -- the machine bus and the Slew Counter
  case periodTimerExpiry b =>
    refine commitExpire (pick := fun s => s.mbp.period) ht fun u => ?_
    unfold State.periodEnds
    repeat' split
    all_goals exact .refl u.ret
  case transmissionAttemptEnd b =>
    refine commitKept ht ?_
    unfold State.attemptEnds
    repeat' split
    all_goals exact .refl s.ret
  case recoveryTimerExpiry => exact commitExpire (pick := fun s => s.mbp.recovery) ht fun u => .refl u.ret
  case slewStep a b =>
    refine commitPins ht fun u => ?_
    split <;> exact .refl u.ret
  case indexMark =>
    refine commitPins ht fun u => ?_
    split <;> exact .refl u.ret
  case slewZFall => exact commitPins ht fun u => .refl u.ret
  -- the Zone Table and the Grade Guide
  case editTimerExpiry => exact commitExpire (pick := fun s => s.zt.edit) ht fun u => .refl u.ret
  case openZones =>
    refine commitKept ht ?_
    unfold State.openZones
    split <;> exact .refl s.ret
  case closeZones =>
    refine commitKept ht ?_
    split <;> exact .refl s.ret
  case holdTimerExpiry =>
    refine commitExpire (pick := fun s => s.gg.hold) ht fun u => ?_
    split <;> exact .refl u.ret
  case selectTarget i =>
    refine commitKept ht ?_
    unfold State.selectTarget
    repeat' split
    all_goals exact .of_same rfl rfl rfl
  -- the Economy Controller
  case autoIdleTimerExpiry =>
    refine commitExpire (pick := fun s => s.ec.autoIdle) ht fun u => ?_
    split <;> exact .refl u.ret
  case shutdownTimerLeft =>
    refine commitKept ht ?_
    split
    · exact .refl s.ret
    split
    · exact .refl s.ret
    · rw [State.report_ret, State.elapse_ret]
      exact .refl s.ret
  case shutdownTimerExpiry =>
    refine commitExpire (pick := fun s => s.ec.shutdown) ht fun u => ?_
    split <;> exact .refl u.ret
  case shutdownWaitExpiry =>
    refine commitExpire (pick := fun s => s.ec.wait) ht fun u => ?_
    split <;> exact .refl u.ret
  case setWorkMode i =>
    refine commitKept ht ?_
    split
    · exact .selectMode s i.toNat
    · exact .refl s.ret
  case clearShift =>
    refine commitKept ht ?_
    exact .of_same rfl rfl rfl
  -- the Notice Unit and the Valve Drive
  case flashTimerExpiry lamp => exact commitExpire (pick := fun s => (s.nu.lamp lamp).flash) ht fun u => .refl u.ret
  case stretchTimerExpiry lamp => exact commitExpire (pick := fun s => (s.nu.lamp lamp).stretch) ht fun u => .refl u.ret
  case ackHead =>
    refine commitKept ht ?_
    unfold State.ackHead
    split <;> exact .refl s.ret
  case ackNotice n =>
    refine commitKept ht ?_
    unfold State.ackNotice
    repeat' split
    all_goals exact .refl s.ret
  case rampIntervalExpiry ch sensed =>
    refine commitExpire (pick := fun s => (s.vd.chan ch.val).ramp) ht fun u => ?_
    unfold State.rampExpires
    dsimp only
    split <;> exact .refl u.ret
  case overCurrent ch sensed =>
    refine commitKept ht ?_
    split <;> exact .refl s.ret
  case supplyVoltageChange v => exact commitPins ht fun u => .refl u.ret
  case downQualificationExpiry => exact commitExpire (pick := fun s => s.vd.downQual) ht fun u => .refl u.ret
  case upQualificationExpiry => exact commitExpire (pick := fun s => s.vd.upQual) ht fun u => .refl u.ret
  case durationTimerExpiry => exact commitExpire (pick := fun s => s.vd.duration) ht fun u => .refl u.ret
  case clearValveFault ch =>
    refine commitKept ht ?_
    unfold State.clearValveFault
    repeat' split
    all_goals exact .refl s.ret
  case driveTest ch c d => exact commitKept ht (.driveTest s ch.toNat c.toNat d.toNat)
  case driveTestStop =>
    refine commitKept ht ?_
    unfold State.driveTestStop
    split <;> exact .refl s.ret
  -- the key, the Controller Link and the reads
  case serviceKeyAsserted => exact commitPins ht fun u => .refl u.ret
  case serviceKeyRelease => exact commitPins ht fun u => .refl u.ret
  case transactionStart =>
    refine commitPins ht fun u => ?_
    split <;> exact .refl u.ret
  case transactionEnd sdi => exact commitPins ht fun u => .refl u.ret
  case responseReady =>
    refine commitKept ht ?_
    rw [State.prepare_frame]
    exact .refl s.ret
  all_goals exact commitKept ht (.refl s.ret)

end State.ItemsGuarded

/-! ### Every step -/

/-- A tick moves no item. -/
theorem State.idle_itemsGuarded (s : State) : s.idle.ItemsGuarded s := by
  unfold State.idle
  split <;> exact .of_kept (.refl s.ret)

/-- What a step can do to the items: contents found lost at a power-on leave none. -/
theorem step_items {s t : State} (ht : step s = .next t) :
    t.ItemsGuarded s ∨ (s.pending.head? = some .powerOn ∧ s.backupDropped = true ∧ t.ret = defaultRetained) := by
  unfold step at ht
  split at ht
  · cases ht
    exact .inl s.idle_itemsGuarded
  next c rest hpending =>
    by_cases hlost : c = .powerOn ∧ s.backupDropped = true
    · obtain ⟨rfl, hdropped⟩ := hlost
      exact .inr ⟨by rw [hpending]; rfl, hdropped, (exec_powerOn_ret ht).1.trans (State.powerUp_ret_lost hdropped)⟩
    · exact .inl (State.ItemsGuarded.exec (s := { s with pending := rest }) c (fun hc => by simpa [hc] using hlost) ht)

end Sys2Proof.Machine

open Sys2Proof.Machine in
/-- Settles O11: the four states by progress, and what a step does to the items (`step_items`): an event evaluates those that it
concerns (`Retained.ItemsSound.served`), a request the one that it writes (`Item.placed_stateSound`). -/
theorem itemStatesKept : Obligations.ItemStatesKept := by
  refine ⟨fun interval lead grace p hlead => ⟨itemStateOf_counting, itemStateOf_due hlead, itemStateOf_overdue,
    itemStateOf_critical⟩, fun s t h ht => ?_⟩
  rcases step_items ht with ⟨-, hsound⟩ | ⟨-, -, hret⟩
  · exact hsound h
  · rw [hret]
    exact .empty (r := defaultRetained) 24

open Sys2Proof.Machine in
/-- Settles O21: every request that writes an entry is refused without the key (`State.ItemsGuarded.of_keyed`), and every event
leaves what requests write (`Retained.writtenItems_served`); a power-on that finds the contents lost leaves no item. -/
theorem serviceKeyGuards : Obligations.ServiceKeyGuards := by
  intro s t hkey ht
  rcases step_items ht with ⟨hwritten, -⟩ | ⟨hhead, hlost, hret⟩
  · exact .inl (hwritten hkey)
  · exact .inr ⟨hhead, hlost, congrArg Retained.items hret⟩
end

-- ==== Proofs of sitting 8: the drive test and the service key ====

section
/-! PROOFS. The drive test: its request, its end by request, by duration and by the service key (08 R136, 10 R171, R172). -/

namespace Sys2Proof.Machine

section
variable {s : State} {ch current duration : Nat}

/-! ### DRIVE_TEST: the checks in their order (R171) -/

theorem EconomyState.allowsTest_iff {st : EconomyState} : st.allowsTest = true ↔ st = .stopped ∨ st = .idling := by
  cases st <;> simp [EconomyState.allowsTest]

theorem State.driveTest_locked (hkey : s.pins.keyAsserted = false) : s.driveTest ch current duration = (s, .locked) :=
  if_pos (by rw [hkey]; rfl)

theorem State.driveTest_keyed (hkey : s.pins.keyAsserted = true) :
    s.driveTest ch current duration =
      if 4 ≤ ch then (s, .badIndex)
      else if !s.ec.state.allowsTest then (s, .state)
      else if (s.vd.chan ch).fault.isSome then (s, .state)
      else
        ({ s with vd := s.vd.startTest ch (clampNat 0 (s.ret.config ch).imax current) (clampNat 1 5000 duration) },
          okOr (clampNat 0 (s.ret.config ch).imax current != current || clampNat 1 5000 duration != duration)) :=
  if_neg (by simp [hkey])

theorem State.driveTest_badIndex (hkey : s.pins.keyAsserted = true) (hch : 4 ≤ ch) :
    s.driveTest ch current duration = (s, .badIndex) := by
  rw [State.driveTest_keyed hkey, if_pos hch]

theorem State.driveTest_state (hkey : s.pins.keyAsserted = true) (hch : ch < 4)
    (h : ¬(s.ec.state = .stopped ∨ s.ec.state = .idling) ∨ (s.vd.chan ch).fault.isSome) :
    s.driveTest ch current duration = (s, .state) := by
  rw [State.driveTest_keyed hkey, if_neg (Nat.not_le.mpr hch)]
  rw [← EconomyState.allowsTest_iff] at h
  split
  · rfl
  next hallowed =>
    have hfault : (s.vd.chan ch).fault.isSome := h.resolve_left (by simpa using hallowed)
    rw [if_pos hfault]

/-- A test that is allowed runs with its figures clamped. -/
theorem State.driveTest_starts (hkey : s.pins.keyAsserted = true) (hch : ch < 4)
    (hallowed : s.ec.state = .stopped ∨ s.ec.state = .idling) (hfault : (s.vd.chan ch).fault = none) :
    let i := min current (s.ret.config ch).imax
    let d := max 1 (min duration 5000)
    s.driveTest ch current duration =
      ({ s with vd := { s.vd with test := some { channel := ch, current := i }, duration := some d } },
        if i = current ∧ d = duration then .ok else .okClamped) := by
  intro i d
  have hi : clampNat 0 (s.ret.config ch).imax current = i := by
    rw [clampNat_natCast (Nat.zero_le _), Nat.zero_max, Nat.min_comm]
  have hd : clampNat 1 5000 duration = d := by rw [clampNat_natCast (by decide), Nat.min_comm]
  have hstate : ¬(!s.ec.state.allowsTest) = true := by simp [EconomyState.allowsTest_iff.mpr hallowed]
  have hclear : ¬(s.vd.chan ch).fault.isSome = true := by simp [hfault]
  have hresult : okOr (i != current || d != duration) = if i = current ∧ d = duration then .ok else .okClamped :=
    okOr_ite (by rw [Bool.eq_iff_iff]; simp)
  rw [State.driveTest_keyed hkey, if_neg (Nat.not_le.mpr hch), if_neg hstate, if_neg hclear, hi, hd, hresult]
  rfl

/-! ### The commands -/

theorem exec_driveTest (h : s.Ready) {b : Byte} {current duration : BitVec 16} {t : State} {r : ResultCode}
    (htest : s.driveTest b.toNat current.toNat duration.toNat = (t, r)) (hin : t.inbox = s.inbox) :
    exec (.driveTest b current duration) s = .next (t.answer 21 r []) := by
  simp only [exec, execDriveTest, State.commit_running h.1, htest, State.deliver_answer_none (hin.trans h.2)]

theorem exec_driveTestStop (h : s.Ready) {t : State} {r : ResultCode} (hstop : s.driveTestStop = (t, r))
    (hin : t.inbox = s.inbox) : exec .driveTestStop s = .next (t.answer 22 r []) := by
  simp only [exec, execDriveTestStop, State.commit_running h.1, hstop, State.deliver_answer_none (hin.trans h.2)]

theorem exec_durationTimerExpiry (h : s.Ready) {left : Nat} (hleft : s.vd.duration = some left) :
    exec .durationTimerExpiry s = .next { s.elapse left with vd := (s.elapse left).vd.endTest } := by
  simp only [exec, execDurationTimerExpiry, State.commit_running h.1, hleft, State.expire_running]
  exact congrArg Host.Outcome.next (State.deliver_none h.2)

theorem exec_serviceKeyRelease (h : s.Ready) :
    exec .serviceKeyRelease s = .next { s with pins := { s.pins with keyAsserted := false }, vd := s.vd.endTest } := by
  simp only [exec, execServiceKeyRelease, State.commitPins_running h.1]
  exact congrArg Host.Outcome.next (State.deliver_none h.2)

theorem exec_serviceKeyAsserted (h : s.Ready) :
    exec .serviceKeyAsserted s = .next { s with pins := { s.pins with keyAsserted := true } } := by
  simp only [exec, execServiceKeyAsserted, State.commitPins_running h.1]
  exact congrArg Host.Outcome.next (State.deliver_none h.2)

end

end Sys2Proof.Machine

open Sys2Proof.Machine in
/-- Settles O57: the checks of a DRIVE_TEST one after another, then the test with its clamped figures
(`State.driveTest_starts`); and every way in which a test ends clears it with its timer. -/
theorem driveTestRuns : Obligations.DriveTestRuns := by
  intro s b current duration h run imax i d allowed ended
  refine ⟨fun hkey => exec_driveTest h (State.driveTest_locked hkey) rfl,
    fun hkey hb => exec_driveTest h (State.driveTest_badIndex hkey hb) rfl,
    fun hkey hb hrefused => exec_driveTest h (State.driveTest_state hkey hb hrefused) rfl,
    fun hkey hb hallowed hfault => exec_driveTest h (State.driveTest_starts hkey hb hallowed hfault) rfl,
    fun htest => exec_driveTestStop h (if_pos htest) rfl,
    fun htest => exec_driveTestStop h (if_neg (by simp [htest])) rfl,
    fun left hleft => exec_durationTimerExpiry h hleft, exec_serviceKeyRelease h, exec_serviceKeyAsserted h⟩
end

-- ==== Proofs of sitting 9: the Notice List, the reports and RESET_N through every step ====

section
/-! PROOFS. The Notice List through every step (09 R150, R151): only reports, acknowledgements and starts move the Notice Set, each
through `Nu.settle`, which leaves the list in order. On the same walk through the commands: an effect leaves the phase and RESET_N
as they were (11 R185). -/

namespace Sys2Proof.Machine

theorem Nu.Sound.settle {nu : Nu} (h : nu.Sound) (m : Nat) {ns : List Notice} (hl : ns.length = nu.notices.length) :
    (nu.settle m ns).Sound := Nu.settle_sound h (hl.trans h.1)

theorem Nu.Sound.take {nu : Nu} (h : nu.Sound) (m : Nat) (r : Report) : (nu.take m r).Sound :=
  h.settle m (applyReport_length r nu.notices)

theorem Nu.Sound.ackOne {nu : Nu} (h : nu.Sound) (m n : Nat) : (nu.ackOne m n).Sound := h.settle m List.length_set

theorem Nu.Sound.ackEvery {nu : Nu} (h : nu.Sound) (m : Nat) : (nu.ackEvery m).Sound := h.settle m List.length_mapIdx

/-- A lamp controller says nothing of the notices or of their list. -/
theorem Nu.Sound.setLamp {nu : Nu} (h : nu.Sound) (which : Lamp) (l : LampState) : (nu.setLamp which l).Sound := by
  cases which <;> exact h

/-- The phase and RESET_N stand as in another state, and where its Notice List was in order, this one's is. -/
def State.Orderly (t s : State) : Prop :=
  t.phase = s.phase ∧ t.pins.resetLow = s.pins.resetLow ∧ (s.nu.Sound → t.nu.Sound)

namespace State.Orderly

variable {u s : State}

theorem refl (s : State) : s.Orderly s := ⟨rfl, rfl, id⟩

/-! ### What moves the Notice Unit -/

theorem elapse (h : u.Orderly s) (dt : Nat) : (u.elapse dt).Orderly s := h

theorem setNu (h : u.Orderly s) {nu : Nu} (hnu : u.nu.Sound → nu.Sound) : (u.setNu nu).Orderly s :=
  ⟨h.1, h.2.1, fun hs => hnu (h.2.2 hs)⟩

theorem deliver (h : u.Orderly s) : u.deliver.Orderly s :=
  h.setNu fun hu => State.deliver_keeps (fun r _ hnu => hnu.take _ r) hu

theorem ackHead (h : u.Orderly s) : u.ackHead.1.Orderly s := by
  unfold State.ackHead
  split
  · exact h
  · exact h.setNu fun hu => hu.ackOne _ _

theorem ackNotice (h : u.Orderly s) (n : Nat) : (u.ackNotice n).1.Orderly s := by
  unfold State.ackNotice
  split
  · exact h
  split
  · exact h.setNu fun hu => hu.ackOne _ _
  · exact h

theorem prepare (h : u.Orderly s) : u.prepare.Orderly s := by
  rw [State.prepare_frame]
  exact h

/-! ### What leaves it: operations that several commands share -/

theorem report (h : u.Orderly s) (rs : List Report) : (u.report rs).Orderly s := h

theorem writeItem (h : u.Orderly s) (i : Nat) (it : Item) : (u.writeItem i it).Orderly s := by
  rw [State.writeItem_frame]
  exact h

theorem serviceEvent (h : u.Orderly s) (p : ServiceBasis → Bool) (f : Item → Item) : (u.serviceEvent p f).Orderly s := by
  rw [State.serviceEvent_frame]
  exact h

theorem judgeActivity (h : u.Orderly s) : u.judgeActivity.Orderly s := by
  rw [State.judgeActivity_frame]
  exact h

theorem tellConsumer (h : u.Orderly s) (i : Nat) (changed accepted : Bool) : (u.tellConsumer i changed accepted).Orderly s := by
  rw [State.tellConsumer_frame]
  exact h

theorem foldl {α : Type} {op : State → α → State} (hop : ∀ (v : State) (a : α), v.Orderly s → (op v a).Orderly s)
    (l : List α) (h : u.Orderly s) : (l.foldl op u).Orderly s :=
  List.foldlRecOn (motive := fun v => v.Orderly s) l op h fun v hv a _ => hop v a hv

/-! ### Samples, slots, gates -/

theorem takeSample (f : CanFrame) (h : u.Orderly s) (i : Nat) : (State.takeSample f u i).Orderly s := by
  unfold State.takeSample
  split <;> exact tellConsumer (u := (u.setSlot i _).report _) h _ _ _

theorem frameArrives (h : u.Orderly s) (f : CanFrame) : (u.frameArrives f).Orderly s :=
  foldl (u := { u with choice := _ }) (fun _ i hv => hv.takeSample f i) _ h

theorem sourceLost (h : u.Orderly s) (i : Nat) : (u.sourceLost i).Orderly s :=
  tellConsumer (u := (u.setSlot i _).report _) h _ _ _

theorem writeSource (h : u.Orderly s) (i : Nat) (x : SourceRecord) : (u.writeSource i x).Orderly s :=
  tellConsumer (u := ((u.setSource i x).setSlot i _).report _) h _ _ _

theorem closeGate (h : u.Orderly s) (count : Nat) (r : Bool) : (u.closeGate count r).Orderly s := by
  have hgate (phi : Nat) (w : Int) : ((State.puGate { u with sc := u.sc.closed u.ret.settings } phi r w).ecGate w).Orderly s := by
    rw [State.ecGate_frame, State.puGate_frame]
    exact h
  unfold State.closeGate
  dsimp only
  split
  · exact (hgate _ _).serviceEvent _ _
  · exact hgate _ _

theorem gateExpires (h : u.Orderly s) : u.gateExpires.Orderly s := by
  unfold State.gateExpires
  split <;> exact h.closeGate _ _

theorem completeQuantum (h : u.Orderly s) : u.completeQuantum.Orderly s := by
  rw [State.completeQuantum, State.serviceQuantum, State.serviceEvent_frame]
  exact h

theorem periodEnds (h : u.Orderly s) (b : Bool) : (u.periodEnds b).Orderly s := by
  unfold State.periodEnds
  repeat' split
  all_goals exact h

theorem attemptEnds (h : u.Orderly s) (b : Bool) : (u.attemptEnds b).Orderly s := by
  unfold State.attemptEnds
  repeat' split
  all_goals exact h

theorem rampExpires (h : u.Orderly s) (ch : Nat) (sensed : List Nat) : (u.rampExpires ch sensed).Orderly s := by
  unfold State.rampExpires
  dsimp only
  split <;> exact h

/-! ### Requests -/

theorem openZones (h : u.Orderly s) : u.openZones.Orderly s := by
  unfold State.openZones
  split <;> exact h

theorem selectTarget (h : u.Orderly s) (i : Nat) : (u.selectTarget i).1.Orderly s := by
  unfold State.selectTarget
  repeat' split
  all_goals exact h

theorem selectMode (h : u.Orderly s) (i : Nat) : (u.selectMode i).Orderly s := by
  unfold State.selectMode
  dsimp only
  repeat' split
  all_goals exact h

theorem serviceDone (h : u.Orderly s) (i : Nat) : (u.serviceDone i).1.Orderly s := by
  unfold State.serviceDone
  repeat' split
  any_goals exact h
  exact h.writeItem _ _

theorem clearValveFault (h : u.Orderly s) (ch : Nat) : (u.clearValveFault ch).1.Orderly s := by
  unfold State.clearValveFault
  repeat' split
  all_goals exact h

theorem driveTest (h : u.Orderly s) (ch c d : Nat) : (u.driveTest ch c d).1.Orderly s := by
  unfold State.driveTest
  repeat' split
  all_goals exact h

theorem driveTestStop (h : u.Orderly s) : u.driveTestStop.1.Orderly s := by
  unfold State.driveTestStop
  split <;> exact h

/-! ### Requests on tables -/

theorem writeMode (h : u.Orderly s) (i : Nat) (m : WorkMode) : (u.writeMode i m).Orderly s := by
  unfold State.writeMode
  dsimp only
  split <;> exact h

theorem writeChannel (h : u.Orderly s) (ch : Nat) (c : ChannelConfig) : (u.writeChannel ch c).Orderly s := by
  rw [State.writeChannel, State.handBack_frame]
  exact h

theorem writeGeometry (h : u.Orderly s) (g : Geometry) : (u.writeGeometry g).Orderly s := by
  rw [State.writeGeometry, State.recompute_frame]
  exact h

theorem settingChanged (h : u.Orderly s) (before : Settings) (n : Nat) : (u.settingChanged before n).Orderly s := by
  unfold State.settingChanged
  split
  case h_1 => rw [State.busRejoined_frame]; exact h
  case h_2 => rw [State.demandWritten_frame]; exact h
  case h_3 => rw [State.demandWritten_frame]; exact h
  case h_15 => rw [State.judgeEngine_frame]; exact h
  case h_16 =>
    unfold State.autoIdleWritten
    repeat' split
    all_goals exact h
  case h_17 =>
    unfold State.shutdownWritten
    repeat' split
    all_goals exact h
  case h_18 => rw [State.judgeActivity_frame]; exact h
  case h_20 => rw [State.judgeOil_frame]; exact h
  all_goals exact h

theorem applySetting (h : u.Orderly s) (n : Nat) (x : Settings) : (u.applySetting n x).Orderly s := by
  unfold State.applySetting
  split
  · exact h
  · exact settingChanged (u := u.setSettings x) h _ _

theorem writeSetting (h : u.Orderly s) (n : Nat) (v : Int) : (u.writeSetting n v).1.Orderly s := by
  unfold State.writeSetting
  split
  · exact h
  · exact h.applySetting _ _

/-- A PUT_ENTRY leaves the state to one write of its table, or is refused and writes nothing. -/
theorem putEntry (h : u.Orderly s) (table i : Nat) (p : List Byte) : (u.putEntry table i p).1.Orderly s := by
  unfold State.putEntry State.putZone State.putSector State.putSurface State.putItem State.putSource State.putMode
    State.putChannel State.putGeometry State.putSetting
  dsimp only
  repeat' split
  any_goals exact h
  · exact h.writeItem _ _
  · exact h.writeSource _ _
  · exact h.writeMode _ _
  · exact h.writeChannel _ _
  · exact h.writeGeometry _
  · exact h.writeSetting _ _

theorem retireItem (h : u.Orderly s) (i : Nat) : (u.retireItem i).1.Orderly s := by
  unfold State.retireItem
  repeat' split
  any_goals exact h
  rw [State.derateReport_frame]
  exact h

/-- A RETIRE_ENTRY, likewise. -/
theorem retireEntry (h : u.Orderly s) (table i : Nat) : (u.retireEntry table i).1.Orderly s := by
  have hitem := h.retireItem i
  unfold State.retireEntry State.retireZone State.retireSector State.retireSurface State.retireSourceEntry
    State.retireChannel State.retireGeometry State.retireSetting
  dsimp only
  repeat' split
  any_goals exact h
  · exact hitem
  · exact h.writeSource _ _
  · exact h.writeChannel _ _
  · exact h.writeGeometry _
  · exact h.writeSetting _ _

/-! ### CLEAR_RETAINED -/

theorem settingDefaults (h : u.Orderly s) (l : List Nat) : (l.foldl State.settingDefault u).Orderly s :=
  foldl (fun _ n hv => hv.applySetting n _) l h

theorem clearBus (h : u.Orderly s) : u.clearBus.Orderly s := by
  have hslots := foldl (op := State.retireSource) (fun _ i hv => hv.writeSource i _) (List.range 8) h
  unfold State.clearBus
  exact hslots.settingDefaults _

theorem clearSlew (h : u.Orderly s) : u.clearSlew.Orderly s := by
  unfold State.clearSlew
  exact h.settingDefaults _

theorem clearZones (h : u.Orderly s) : u.clearZones.Orderly s := h

theorem clearLimiter (h : u.Orderly s) : u.clearLimiter.Orderly s := h

theorem clearGrade (h : u.Orderly s) : u.clearGrade.Orderly s := h

theorem clearEconomy (h : u.Orderly s) : u.clearEconomy.Orderly s := by
  have hjudged (v : State) (hv : v.Orderly s) : v.judgeEngine.judgeActivity.judgeOil.workOutTorque.Orderly s := by
    rw [State.judgeOil_frame, State.judgeActivity_frame, State.judgeEngine_frame]
    exact hv
  unfold State.clearEconomy
  exact hjudged _ h

theorem clearService (h : u.Orderly s) : u.clearService.Orderly s := h

theorem clearValves (h : u.Orderly s) : u.clearValves.Orderly s := by
  have hchannels := foldl (op := State.channelDefault) (fun _ ch hv => hv.writeChannel ch _) (List.range 4) h
  unfold State.clearValves
  exact hchannels

theorem clearNoticeSettings (h : u.Orderly s) : u.clearNoticeSettings.Orderly s := h

theorem clearRetained (h : u.Orderly s) : u.clearRetained.Orderly s := by
  have hgrade := (h.clearBus.clearSlew.writeGeometry defaultGeometry).clearZones.clearLimiter.clearGrade
  have hvalves := hgrade.clearEconomy.clearService.clearValves
  unfold State.clearRetained
  exact hvalves.clearNoticeSettings

theorem clearRetainedRequest (h : u.Orderly s) : u.clearRetainedRequest.1.Orderly s := by
  unfold State.clearRetainedRequest
  split
  · exact h
  split
  · exact h
  · exact h.clearRetained

end State.Orderly

/-! ### Every command -/

/-- What a step leaves: a list in order stays in order, no report waits where none did, and a part that did not run while RESET_N
was low does not. -/
structure State.LeavesOrder (t s : State) : Prop where
  notices : s.nu.Sound → t.nu.Sound
  inbox : s.inbox = [] → t.inbox = []
  resetLow : (s.phase = .running → s.pins.resetLow = false) → t.phase = .running → t.pins.resetLow = false

namespace State.LeavesOrder

variable {s t : State}

/-- The Notice Unit, the reports, the phase and RESET_N stand. -/
theorem of_same (hnu : t.nu = s.nu) (hinbox : t.inbox = s.inbox) (hphase : t.phase = s.phase)
    (hlow : t.pins.resetLow = s.pins.resetLow) : t.LeavesOrder s := by
  refine ⟨?_, ?_, ?_⟩
  · rw [hnu]; exact id
  · rw [hinbox]; exact id
  · rw [hphase, hlow]; exact id

/-- An effect's step delivers every report. -/
theorem of_orderly (h : t.Orderly s) (hinbox : t.inbox = []) : t.LeavesOrder s := by
  obtain ⟨hphase, hlow, hnotices⟩ := h
  refine ⟨hnotices, fun _ => hinbox, ?_⟩
  rw [hphase, hlow]
  exact id

theorem commitPins {p : Pins} {f : State → State} (ht : s.commitPins p f = .next t) (hp : p.resetLow = s.pins.resetLow)
    (hf : ∀ u : State, u.Orderly s → (f u).Orderly s) : t.LeavesOrder s := by
  by_cases hrun : s.phase = .running
  · rw [State.commitPins_running hrun] at ht
    cases ht
    exact of_orderly (hf { s with pins := p } ⟨rfl, hp, id⟩).deliver rfl
  · rw [State.commitPins_stopped hrun] at ht
    cases ht
    exact of_same rfl rfl rfl hp

theorem commit {f : State → State} (ht : s.commit f = .next t) (hf : ∀ u : State, u.Orderly s → (f u).Orderly s) :
    t.LeavesOrder s := by
  by_cases hrun : s.phase = .running
  · rw [State.commit_running hrun] at ht
    cases ht
    exact of_orderly (hf s (.refl s)).deliver rfl
  · rw [State.commit_stopped hrun] at ht
    cases ht
    exact of_same rfl rfl rfl rfl

theorem commitExpire {pick : State → Timer} {f : State → State} (ht : s.commit (fun s => s.expire (pick s) f) = .next t)
    (hf : ∀ u : State, u.Orderly s → (f u).Orderly s) : t.LeavesOrder s :=
  commit ht fun _ hu => State.expire_keeps (P := fun u => u.Orderly s) (fun _ dt hv => hv.elapse dt) hf hu

/-- A start delivers its reports to a Notice Unit whose list is in order. -/
theorem start (u : State) (extra : List Report) (hlow : (s.phase = .running → s.pins.resetLow = false) → u.pins.resetLow = false) :
    (u.start extra).LeavesOrder s :=
  ⟨fun _ => (u.start_nu extra).1.sound, fun _ => rfl, fun hs _ => hlow hs⟩

theorem exec (c : Instr) (ht : exec c s = .next t) : t.LeavesOrder s := by
  cases c
  all_goals simp only [Machine.exec] at ht
  -- expiries
  case recoveryTimerExpiry => exact commitExpire (pick := fun s => s.mbp.recovery) ht fun _ hu => hu
  case editTimerExpiry => exact commitExpire (pick := fun s => s.zt.edit) ht fun _ hu => hu
  case downQualificationExpiry => exact commitExpire (pick := fun s => s.vd.downQual) ht fun _ hu => hu
  case upQualificationExpiry => exact commitExpire (pick := fun s => s.vd.upQual) ht fun _ hu => hu
  case durationTimerExpiry => exact commitExpire (pick := fun s => s.vd.duration) ht fun _ hu => hu
  case sourceTimeoutExpiry slot =>
    exact commitExpire (pick := fun s => (s.slot slot.val).timer) ht fun _ hu => hu.sourceLost _
  case periodTimerExpiry b => exact commitExpire (pick := fun s => s.mbp.period) ht fun _ hu => hu.periodEnds b
  case gateTimerExpiry => exact commitExpire (pick := fun s => s.sc.gate) ht fun _ hu => hu.gateExpires
  case rampIntervalExpiry ch sensed =>
    exact commitExpire (pick := fun s => (s.vd.chan ch.val).ramp) ht fun _ hu => hu.rampExpires ch.val sensed
  case flashTimerExpiry lamp =>
    exact commitExpire (pick := fun s => (s.nu.lamp lamp).flash) ht fun _ hu => hu.setNu fun h => h.setLamp _ _
  case stretchTimerExpiry lamp =>
    exact commitExpire (pick := fun s => (s.nu.lamp lamp).stretch) ht fun _ hu => hu.setNu fun h => h.setLamp _ _
  case holdTimerExpiry =>
    refine commitExpire (pick := fun s => s.gg.hold) ht fun u hu => ?_
    split <;> exact hu
  case autoIdleTimerExpiry =>
    refine commitExpire (pick := fun s => s.ec.autoIdle) ht fun u hu => ?_
    split <;> exact hu
  case shutdownTimerExpiry =>
    refine commitExpire (pick := fun s => s.ec.shutdown) ht fun u hu => ?_
    split <;> exact hu
  case shutdownWaitExpiry =>
    refine commitExpire (pick := fun s => s.ec.wait) ht fun u hu => ?_
    split <;> exact hu
  case shutdownTimerLeft =>
    refine commit ht fun u hu => ?_
    split
    · exact hu
    split
    · exact hu
    · exact (hu.elapse _).report _
  case quantumCompletion =>
    refine commit ht fun u hu => ?_
    split
    · exact (hu.elapse _).completeQuantum
    · exact hu
  -- pins
  case slewStep a b =>
    refine commitPins ht rfl fun u hu => ?_
    split <;> exact hu
  case indexMark =>
    refine commitPins ht rfl fun u hu => ?_
    split <;> exact hu
  case transactionStart =>
    refine commitPins ht rfl fun u hu => ?_
    split <;> exact hu
  case slewZFall | supplyVoltageChange | serviceKeyAsserted | serviceKeyRelease | transactionEnd =>
    exact commitPins ht rfl fun _ hu => hu
  -- other events
  case frameArrival f =>
    refine commit ht fun u hu => ?_
    split
    · exact hu.frameArrives f
    · exact hu
  case transmissionAttemptEnd b => exact commit ht fun _ hu => hu.attemptEnds b
  case overCurrent ch sensed =>
    refine commit ht fun u hu => ?_
    split <;> exact hu
  case responseReady => exact commit ht fun _ hu => hu.prepare
  -- requests
  case ackHead => exact commit ht fun _ hu => hu.ackHead
  case ackNotice n => exact commit ht fun _ hu => hu.ackNotice n.toNat
  case ackAll => exact commit ht fun _ hu => hu.setNu fun h => h.ackEvery _
  case putEntry table i p => exact commit ht fun _ hu => hu.putEntry table.toNat i.toNat p
  case retireEntry table i => exact commit ht fun _ hu => hu.retireEntry table.toNat i.toNat
  case openZones => exact commit ht fun _ hu => hu.openZones
  case closeZones =>
    refine commit ht fun u hu => ?_
    split <;> exact hu
  case selectTarget i => exact commit ht fun _ hu => hu.selectTarget i.toNat
  case setWorkMode i =>
    refine commit ht fun u hu => ?_
    split
    · exact hu.selectMode i.toNat
    · exact hu
  case serviceDone i => exact commit ht fun _ hu => hu.serviceDone i.toNat
  case clearValveFault ch => exact commit ht fun _ hu => hu.clearValveFault ch.toNat
  case driveTest ch c d => exact commit ht fun _ hu => hu.driveTest ch.toNat c.toNat d.toNat
  case driveTestStop => exact commit ht fun _ hu => hu.driveTestStop
  case clearRetained => exact commit ht fun _ hu => hu.clearRetainedRequest
  -- resets and power
  case restart =>
    cases ht
    split
    · next hrun => exact start s _ fun hs => hs hrun
    · exact of_same rfl rfl rfl rfl
  case resetNAsserted =>
    cases ht
    split
    · exact ⟨id, id, nofun⟩
    · next hstopped => exact ⟨id, id, fun _ hrun => absurd hrun hstopped⟩
  case reset =>
    cases ht
    split
    · exact ⟨id, id, fun _ _ => rfl⟩
    · exact start (s.setResetLow false) _ fun _ => rfl
  case powerOn =>
    cases ht
    split
    · exact ⟨fun _ => (s.judgeRetained.start_nu _).1.sound, fun _ => rfl, nofun⟩
    · next hlow => exact start s.judgeRetained _ fun _ => by simpa using hlow
  case powerLoss =>
    cases ht
    exact ⟨id, id, nofun⟩
  case backupDropped =>
    cases ht
    split <;> exact of_same rfl rfl rfl rfl
  all_goals exact commit ht fun _ hu => hu

theorem step (ht : step s = .next t) : t.LeavesOrder s := by
  unfold Machine.step at ht
  split at ht
  · cases ht
    unfold State.idle
    split
    · exact ⟨id, id, id⟩
    · exact of_same rfl rfl rfl rfl
  · next c rest _ =>
    obtain ⟨hnotices, hinbox, hlow⟩ := exec (s := { s with pending := rest }) c ht
    exact ⟨hnotices, hinbox, hlow⟩

end State.LeavesOrder

end Sys2Proof.Machine

open Sys2Proof.Machine in
/-- Settles O9: reports and acknowledgements change the Notice Set through `Nu.settle`, which leaves the list in order
(`Nu.Sound.settle`), a start builds the list report by report (`State.start_nu`), and nothing else touches either
(`State.Orderly`). -/
theorem noticeListKept : Obligations.NoticeListKept := fun _ _ h ht => (State.LeavesOrder.step ht).notices h

open Sys2Proof.Machine in
/-- Settles O4: an effect of a running part ends in `State.deliver` and leaves the phase and RESET_N (`State.Orderly`), and the
resets set both together. -/
theorem reportsLeaveNoRest : Obligations.ReportsLeaveNoRest := fun _ _ hin ht =>
  ⟨(State.LeavesOrder.step ht).inbox hin, (State.LeavesOrder.step ht).resetLow⟩
end

-- ==== Proofs of sitting 9: what a report and an acknowledgement make of each notice ====

section
/-! PROOFS. The transitions of the notices (09 R146 to R149, R153): a report and an acknowledgement move the notices that they
concern, by `Notice.onCondition`, `Notice.onCause` and `Notice.onAck`, and leave every other as it was. -/

namespace Sys2Proof.Machine

/-! ### One notice -/

/-- The HOLD notices as the statements list them (Table 9-1). -/
theorem noticeHolds_iff {n : Nat} :
    noticeHolds n = true ↔ n = 0 ∨ (2 ≤ n ∧ n ≤ 31) ∨ (45 ≤ n ∧ n ≤ 52) ∨ n = 54 := by
  simp [noticeHolds, or_assoc]

/-- A FOLLOW notice whose condition is present (R147). -/
theorem Notice.onCondition_follow_present (x : Notice) :
    x.onCondition false true = ⟨if x.state = .clear then .raised else x.state, true⟩ := rfl

/-- A FOLLOW notice whose condition ends (R147). -/
theorem Notice.onCondition_follow_absent (x : Notice) : x.onCondition false false = ⟨.clear, false⟩ := rfl

/-- A HOLD notice whose condition ends (R148). -/
theorem Notice.onCondition_hold_absent (x : Notice) :
    x.onCondition true false = ⟨if x.state = .acked then .clear else x.state, false⟩ := by
  simp [Notice.onCondition]

/-- A RAISED notice that is acknowledged: a HOLD notice whose condition is absent is CLEAR at once (R147, R148). -/
theorem Notice.onAck_raised {x : Notice} (h : x.state = .raised) (holds : Bool) :
    x.onAck holds = { x with state := if holds = true ∧ x.cond = false then .clear else .acked } := by
  simp [Notice.onAck, h]

theorem Notice.onAck_other {x : Notice} (h : x.state ≠ .raised) (holds : Bool) : x.onAck holds = x := if_neg h

/-- No notice is RAISED once it is acknowledged. -/
theorem Notice.onAck_state_ne_raised (x : Notice) (holds : Bool) : (x.onAck holds).state ≠ .raised := by
  by_cases h : x.state = .raised
  · rw [Notice.onAck_raised h]
    dsimp only
    split <;> simp
  · rwa [Notice.onAck_other h]

/-! ### The Notice Set -/

section
variable {nu : Nu} {n : Nat}

theorem Nu.noticeAt_take (hn : n < nu.notices.length) (m : Nat) (r : Report) :
    noticeAt (nu.take m r).notices n = r.act n (noticeAt nu.notices n) := noticeAt_applyReport r hn

theorem Nu.noticeAt_ackOne_same (hn : n < nu.notices.length) (m : Nat) :
    noticeAt (nu.ackOne m n).notices n = (noticeAt nu.notices n).onAck (noticeHolds n) :=
  (noticeAt_set hn).trans (if_pos rfl)

theorem Nu.noticeAt_ackOne_other (hn : n < nu.notices.length) (m : Nat) {k : Nat} (hk : k ≠ n) :
    noticeAt (nu.ackOne m k).notices n = noticeAt nu.notices n :=
  (noticeAt_set hn).trans (if_neg hk)

theorem Nu.noticeAt_ackEvery (hn : n < nu.notices.length) (m : Nat) :
    noticeAt (nu.ackEvery m).notices n = (noticeAt nu.notices n).onAck (noticeHolds n) := by
  simp [Nu.ackEvery, Nu.settle, noticeAt, List.getD_eq_getElem?_getD, hn]

end

/-- The three notices of an item (Table 9-1). -/
theorem Report.touches_retirement_iff {i n : Nat} :
    (Report.retirement i).touches n = true ↔ n = 8 + i ∨ n = 58 + i ∨ n = 86 + i := by
  simp [Report.touches, noticeServiceCritical, noticeServiceOverdue, noticeServiceDue, or_assoc]

end Sys2Proof.Machine

open Sys2Proof.Machine in
/-- Settles O5: `State.deliver` writes three fields, the Notice Set after it is that of the reports in the order in which they were
made (`State.deliver_notices`), and one report is taken as it is (`State.deliver_one`). -/
theorem reportsReachNoticeUnit : Obligations.ReportsReachNoticeUnit := fun s =>
  ⟨rfl, s.deliver_notices, fun _ hr => State.deliver_one hr⟩

open Sys2Proof.Machine in
/-- Settles O6: a report moves each notice by `Report.act` (`Nu.noticeAt_take`) and an acknowledgement its own notice by
`Notice.onAck`; the class of the notice decides which transition that is. -/
theorem noticeTransitions : Obligations.NoticeTransitions := by
  intro nu m n hlen hn holds x after acked
  have hn' : n < nu.notices.length := by omega
  have hafter (r : Report) : after r = r.act n x := Nu.noticeAt_take hn' m r
  have hcondition (present : Bool) : after (.condition n present) = x.onCondition (noticeHolds n) present :=
    (hafter _).trans (if_pos rfl)
  have hacked : acked = x.onAck (noticeHolds n) := Nu.noticeAt_ackOne_same hn' m
  refine ⟨fun hfollow => ?_, fun hhold => ?_, fun i _ => ?_, fun k p hk => ?_⟩
  · have hclass : noticeHolds n = false := Bool.eq_false_iff.mpr (noticeHolds_iff.not.mpr hfollow)
    rw [hclass] at hcondition hacked
    refine ⟨hcondition true, hcondition false, fun hraised => ?_⟩
    rw [hacked, Notice.onAck_raised hraised]
    simp
  · have hclass : noticeHolds n = true := noticeHolds_iff.mpr hhold
    rw [hclass] at hcondition hacked
    refine ⟨fun c => (hafter _).trans (if_pos rfl), (hcondition false).trans x.onCondition_hold_absent, fun hraised => ?_⟩
    rw [hacked, Notice.onAck_raised hraised]
    cases x.cond <;> simp
  · refine ⟨fun htouched => ?_, fun hother => ?_⟩
    · exact (hafter _).trans (if_pos (Report.touches_retirement_iff.mpr htouched))
    · refine (hafter _).trans (if_neg fun htouched => ?_)
      have := Report.touches_retirement_iff.mp htouched
      omega
  · exact ⟨(hafter _).trans (if_neg hk), (hafter _).trans (if_neg hk), Nu.noticeAt_ackOne_other hn' m hk⟩
end

-- ==== Proofs of sitting 9: the Notice List and the change flag ====

section
/-! PROOFS. What becomes of the Notice List and the change flag when the Notice Set changes (09 R150 to R152). -/

namespace Sys2Proof.Machine

section
variable {ns : List Notice} {l : List Nat} {n : Nat}

/-- The RAISED notices that a list does not hold, ascending: those that ask for a place (R151). -/
def askingPlace (ns : List Notice) (kept : List Nat) : List Nat := (raisedNumbers ns).filter (fun n => !kept.contains n)

/-- The notices that join a list: the first of those that ask, as many as there are places (R151). -/
def joining (ns : List Notice) (kept : List Nat) : List Nat := (askingPlace ns kept).take (Config.listPlaces - kept.length)

theorem relist_eq (ns : List Notice) (l : List Nat) :
    relist ns l = l.filter (isRaised ns) ++ joining ns (l.filter (isRaised ns)) := rfl

theorem mem_askingPlace {kept : List Nat} : n ∈ askingPlace ns kept ↔ n < noticeCount ∧ isRaised ns n = true ∧ n ∉ kept := by
  simp [askingPlace, mem_raisedNumbers, and_assoc]

theorem askingPlace_ascending (ns : List Notice) (kept : List Nat) : (askingPlace ns kept).Pairwise (· < ·) :=
  (List.pairwise_lt_range.filter _).filter _

theorem joining_ascending (ns : List Notice) (kept : List Nat) : (joining ns kept).Pairwise (· < ·) :=
  (askingPlace_ascending ns kept).sublist (List.take_sublist _ _)

/-- A notice that asks and does not join has a higher number than every one that joins. -/
theorem lt_of_mem_joining {kept : List Nat} {k : Nat} (hk : k ∈ joining ns kept) (hn : n ∈ askingPlace ns kept)
    (hout : n ∉ joining ns kept) : k < n := by
  have hsorted := askingPlace_ascending ns kept
  have hsplit := List.take_append_drop (Config.listPlaces - kept.length) (askingPlace ns kept)
  rw [← hsplit] at hsorted hn
  have hlater : n ∈ (askingPlace ns kept).drop (Config.listPlaces - kept.length) :=
    (List.mem_append.mp hn).resolve_left hout
  exact (List.pairwise_append.mp hsorted).2.2 k hk n hlater

/-- A RAISED notice waits only while the list is full, behind every one that joined (R151). -/
theorem relist_waiting (hl : l.length ≤ Config.listPlaces) (hn : n < noticeCount) (hr : isRaised ns n = true)
    (hout : n ∉ relist ns l) :
    (relist ns l).length = Config.listPlaces ∧ ∀ k ∈ joining ns (l.filter (isRaised ns)), k < n := by
  refine ⟨le_antisymm (relist_length hl) (Nat.le_of_not_lt fun hfree => hout (relist_complete hfree hn hr)), fun k hk => ?_⟩
  rw [relist_eq, List.mem_append, not_or] at hout
  obtain ⟨hkept, hjoined⟩ := hout
  exact lt_of_mem_joining hk (mem_askingPlace.mpr ⟨hn, hr, hkept⟩) hjoined

theorem noticeAt_eq_getElem (hn : n < ns.length) : noticeAt ns n = ns[n] := by
  simp [noticeAt, List.getD_eq_getElem?_getD, hn]

/-- Two Notice Sets differ in their states where a notice does. -/
theorem states_ne_iff {ns' : List Notice} (hlen : ns.length = ns'.length) :
    ns.map (·.state) ≠ ns'.map (·.state) ↔ ∃ n, n < ns.length ∧ (noticeAt ns n).state ≠ (noticeAt ns' n).state := by
  rw [← not_iff_not, not_not]
  push Not
  constructor
  · intro h n hn
    have hget := congrArg (·[n]?) h
    simpa [hn, hlen ▸ hn, noticeAt_eq_getElem] using hget
  · intro h
    refine List.ext_getElem (by simpa using hlen) fun n hn hn' => ?_
    rw [List.length_map] at hn hn'
    simpa [noticeAt_eq_getElem, hn, hn'] using h n hn

/-- The change flag (R152). -/
theorem Nu.settle_changed_iff {nu : Nu} (m : Nat) (hlen : ns.length = nu.notices.length) :
    (nu.settle m ns).changed = true ↔
      nu.changed = true ∨ (∃ n, n < ns.length ∧ (noticeAt ns n).state ≠ (noticeAt nu.notices n).state) ∨
        (nu.settle m ns).list ≠ nu.list := by
  rw [← states_ne_iff hlen]
  simp [Nu.settle, or_assoc]

end

end Sys2Proof.Machine

open Sys2Proof.Machine in
/-- Settles O7: a list that follows a Notice Set is its RAISED entries and then those that join (`relist_eq`), one that waits
waits for a place (`relist_waiting`), and reports and acknowledgements change the Notice Set by `Nu.settle` alone. -/
theorem noticeListChanges : Obligations.NoticeListChanges := by
  intro nu m ns hsound hlen t
  obtain ⟨hcount, hplaces, -⟩ := hsound
  refine ⟨rfl, ⟨joining ns (nu.list.filter (isRaised ns)), relist_eq ns nu.list, joining_ascending _ _, fun n hn => ?_,
    fun n hn hr hout => relist_waiting hplaces hn hr hout⟩, ?_, fun r => ⟨rfl, rfl⟩, fun n => rfl, rfl⟩
  · exact mem_askingPlace.mp (List.mem_of_mem_take hn)
  · rw [Nu.settle_changed_iff m (hlen.trans hcount.symm), hlen]
end

-- ==== Proofs of sitting 9: the lamps and the status lines ====

section
/-! PROOFS. The lamps follow the notices of their severities, and the lamp and status lines follow the state (09 R156 to R159). -/

namespace Sys2Proof.Machine

/-! ### The notices of a severity (Table 9-1) -/

theorem noticeSeverity_red {n : Nat} : noticeSeverity n = .red ↔ n < 32 := by
  unfold noticeSeverity
  split_ifs <;> simp_all

theorem noticeSeverity_amber {n : Nat} : noticeSeverity n = .amber ↔ 32 ≤ n ∧ n < 82 := by
  unfold noticeSeverity
  split_ifs <;> simp <;> omega

/-- The lamps show RED and AMBER notices, all of which lie in the catalogue. -/
def lampSeverity : Lamp → Severity
  | .red => .red
  | .amber => .amber

theorem lampOwns_iff (which : Lamp) {n : Nat} :
    (if which = .red then n < 32 else 32 ≤ n ∧ n < 82) ↔ n < noticeCount ∧ noticeSeverity n = lampSeverity which := by
  cases which with
  | red => simp only [lampSeverity, noticeSeverity_red, noticeCount, if_true]; omega
  | amber => simp only [lampSeverity, noticeSeverity_amber, noticeCount, reduceCtorEq, if_false]; omega

theorem anyRaised_iff {ns : List Notice} {v : Severity} :
    anyRaised ns v = true ↔ ∃ n, (n < noticeCount ∧ noticeSeverity n = v) ∧ isRaised ns n = true := by
  simp [anyRaised, raisedNumbers, and_comm, and_left_comm]

theorem anyAcked_iff {ns : List Notice} {v : Severity} :
    anyAcked ns v = true ↔ ∃ n, (n < noticeCount ∧ noticeSeverity n = v) ∧ isAcked ns n = true := by
  simp [anyAcked, ackedNumbers, and_comm, and_left_comm]

/-- A RED notice is RAISED or ACKED: what the status function ANY_RED shows (R158). -/
theorem anyRed_iff {ns : List Notice} :
    (anyRaised ns .red || anyAcked ns .red) = true ↔ ∃ n, n < 32 ∧ (isRaised ns n = true ∨ isAcked ns n = true) := by
  have hown (n : Nat) : n < noticeCount ∧ noticeSeverity n = .red ↔ n < 32 := (lampOwns_iff .red).symm
  simp only [Bool.or_eq_true, anyRaised_iff, anyAcked_iff, hown, ← exists_or, and_or_left]

/-! ### One lamp (R156) -/

theorem Nu.settle_lamp (m : Nat) (nu : Nu) (ns : List Notice) (which : Lamp) :
    (nu.settle m ns).lamp which = (nu.lamp which).next (anyRaised ns (lampSeverity which)) (anyAcked ns (lampSeverity which)) m := by
  cases which <;> rfl

section
variable {l : LampState} {acked : Bool} {m : Nat}

theorem LampState.next_flashing (h : l.mode = .flashing) : l.next true acked m = l := by simp [LampState.next, h]

theorem LampState.next_raised (h : l.mode ≠ .flashing) :
    l.next true acked m = { mode := .flashing, lit := true, flash := some 500, stretch := none } := by
  cases hmode : l.mode <;> simp_all [LampState.next, Config.flashPhase]

theorem LampState.next_acked :
    l.next false true m = { mode := .steady, lit := true, flash := none, stretch := none } := rfl

theorem LampState.next_dark (h : l.mode = .off ∨ l.mode = .stretch) : l.next false false m = l := by
  rcases h with h | h <;> simp [LampState.next, h]

theorem LampState.next_stretched (h : l.mode = .flashing ∨ l.mode = .steady) :
    l.next false false m =
      if m = 0 then { mode := .off, lit := false, flash := none, stretch := none }
      else { mode := .stretch, lit := true, flash := none, stretch := some m } := by
  rcases h with h | h <;> simp [LampState.next, h]

theorem LampState.light_iff (l : LampState) :
    l.light = true ↔ l.mode = .steady ∨ l.mode = .stretch ∨ (l.mode = .flashing ∧ l.lit = true) := by
  cases h : l.mode <;> simp [LampState.light, h]

end

/-! ### The lines (R158, R159) -/

theorem anyServiceDue_iff {items : List (Option Item)} :
    anyServiceDue items = true ↔ ∃ it, some it ∈ items ∧ it.state ≠ .counting := by
  rw [anyServiceDue, List.any_eq_true]
  constructor
  · rintro ⟨_ | it, hmem, hdue⟩
    · cases hdue
    · exact ⟨it, hmem, by simpa using hdue⟩
  · rintro ⟨it, hmem, hdue⟩
    exact ⟨some it, hmem, by simpa using hdue⟩

/-- A line of a running part: high while its function is active, or, with ACTIVE_LOW, while it is not. -/
theorem statusLine_iff {running b activeLow : Bool} {active : Prop} (h : b = true ↔ active) :
    (running && (b != activeLow)) = true ↔ running = true ∧ (active ↔ activeLow = false) := by
  rw [Bool.and_eq_true, ← h]
  cases b <;> cases activeLow <;> simp

end Sys2Proof.Machine

open Sys2Proof.Machine in
/-- Settles O8: `LampState.next` by what its severity holds and by the lamp's mode, the lamp lines by `LampState.light`, and each
status function by what it shows. -/
theorem lampFollowsNotices : Obligations.LampFollowsNotices := by
  refine ⟨fun nu m ns which => ?_, fun s => ?_⟩
  · intro old new own raised acked
    have hraised : raised ↔ anyRaised ns (lampSeverity which) = true := by
      rw [anyRaised_iff]
      exact exists_congr fun n => and_congr_left' (lampOwns_iff which)
    have hacked : acked ↔ anyAcked ns (lampSeverity which) = true := by
      rw [anyAcked_iff]
      exact exists_congr fun n => and_congr_left' (lampOwns_iff which)
    have hnew : new = old.next (anyRaised ns (lampSeverity which)) (anyAcked ns (lampSeverity which)) m := nu.settle_lamp m ns which
    simp only [hraised, hacked, Bool.not_eq_true]
    refine ⟨fun hr hmode => ?_, fun hr hmode => ?_, fun hr ha => ?_, fun hr ha hmode => ?_, fun hr ha hmode => ?_⟩
    · rw [hnew, hr, LampState.next_flashing hmode]
    · rw [hnew, hr, LampState.next_raised hmode]
    · rw [hnew, hr, ha, LampState.next_acked]
    · rw [hnew, hr, ha, LampState.next_dark hmode]
    · rw [hnew, hr, ha, LampState.next_stretched hmode]
  · intro shines r active high
    have hrunning : (s.phase == .running) = true ↔ s.phase = .running := beq_iff_eq
    have hlamp (l : LampState) : (s.phase == .running && l.light) = true ↔ s.phase = .running ∧ shines l := by
      rw [Bool.and_eq_true, hrunning, l.light_iff]
    have hactive (f : StatusFunction) : s.functionActive f = true ↔ active f := by
      cases f with
      | anyRed => exact anyRed_iff
      | anyService => exact anyServiceDue_iff
      | valveFaultAny => exact List.any_eq_true
      | _ => simp [State.functionActive, active, r]
    have hline (f : StatusFunction) (activeLow : Bool) :
        (s.phase == .running && (s.functionActive f != activeLow)) = true ↔ high f activeLow := by
      rw [statusLine_iff (hactive f), hrunning]
    exact ⟨hlamp _, hlamp _, hline _ _, hline _ _⟩
end

-- ==== Proofs of sitting 9: the acknowledgements and the lamp timers ====

section
/-! PROOFS. ACK_HEAD, ACK_NOTICE and ACK_ALL (09 R153), and the expiries of the lamps' timers (09 R156). -/

namespace Sys2Proof.Machine

section
variable {s : State}

/-! ### Acknowledgements -/

theorem exec_ackHead (h : s.Ready) {t : State} {r : ResultCode} (hack : s.ackHead = (t, r)) (hin : t.inbox = s.inbox) :
    exec .ackHead s = .next (t.answer 10 r []) := by
  simp only [exec, execAckHead, State.commit_running h.1, hack, State.deliver_answer_none (hin.trans h.2)]

theorem exec_ackNotice (h : s.Ready) {n : Byte} {t : State} {r : ResultCode} (hack : s.ackNotice n.toNat = (t, r))
    (hin : t.inbox = s.inbox) : exec (.ackNotice n) s = .next (t.answer 11 r []) := by
  simp only [exec, execAckNotice, State.commit_running h.1, hack, State.deliver_answer_none (hin.trans h.2)]

theorem exec_ackAll (h : s.Ready) :
    exec .ackAll s = .next ((s.setNu (s.nu.ackEvery s.ret.settings.stretchMs)).answer 12 .ok []) := by
  have hin : (s.setNu (s.nu.ackEvery s.ret.settings.stretchMs)).inbox = [] := h.2
  simp only [exec, execAckAll, State.commit_running h.1, State.deliver_answer_none hin]

theorem State.ackHead_empty (h : s.nu.list = []) : s.ackHead = (s, .empty) := by simp [State.ackHead, h]

theorem State.ackHead_listed {k : Nat} (h : s.nu.list.head? = some k) :
    s.ackHead = (s.setNu (s.nu.ackOne s.ret.settings.stretchMs k), .ok) := by
  obtain ⟨rest, hlist⟩ := List.head?_eq_some_iff.mp h
  simp [State.ackHead, hlist]

theorem State.ackNotice_badIndex {n : Nat} (h : 110 ≤ n) : s.ackNotice n = (s, .badIndex) := if_pos h

theorem State.ackNotice_state {n : Nat} (h : n < 110) (hr : isRaised s.nu.notices n = false) : s.ackNotice n = (s, .state) := by
  simp [State.ackNotice, noticeCount, h, hr]

theorem State.ackNotice_raised {n : Nat} (h : n < 110) (hr : isRaised s.nu.notices n = true) :
    s.ackNotice n = (s.setNu (s.nu.ackOne s.ret.settings.stretchMs n), .ok) := by
  simp [State.ackNotice, noticeCount, h, hr]

/-- No notice is RAISED once all are acknowledged. -/
theorem Nu.ackEvery_isRaised (nu : Nu) (m n : Nat) : isRaised (nu.ackEvery m).notices n = false := by
  rw [isRaised, beq_eq_false_iff_ne]
  by_cases hn : n < nu.notices.length
  · rw [Nu.noticeAt_ackEvery hn]
    exact Notice.onAck_state_ne_raised _ _
  · have hlen : (nu.ackEvery m).notices.length ≤ n := by simpa [Nu.ackEvery, Nu.settle] using hn
    rw [noticeAt, List.getD_eq_default _ _ hlen]
    decide

theorem Nu.ackEvery_list (nu : Nu) (m : Nat) : (nu.ackEvery m).list = [] := by
  refine List.eq_nil_iff_forall_not_mem.mpr fun n hn => ?_
  have hraised : isRaised (nu.ackEvery m).notices n = true := relist_raised hn
  simp [Nu.ackEvery_isRaised] at hraised

/-! ### Lamp timers -/

theorem exec_flashTimerExpiry (h : s.Ready) {lamp : Lamp} {left : Nat} (hleft : (s.nu.lamp lamp).flash = some left) :
    exec (.flashTimerExpiry lamp) s =
      .next ((s.elapse left).setNu ((s.elapse left).nu.setLamp lamp ((s.elapse left).nu.lamp lamp).flashed)) :=
  (State.commit_expire (pick := fun s => (s.nu.lamp lamp).flash) h.1 hleft _).trans
    (congrArg Host.Outcome.next (State.deliver_none h.2))

theorem exec_stretchTimerExpiry (h : s.Ready) {lamp : Lamp} {left : Nat} (hleft : (s.nu.lamp lamp).stretch = some left) :
    exec (.stretchTimerExpiry lamp) s = .next ((s.elapse left).setNu ((s.elapse left).nu.setLamp lamp LampState.stretched)) :=
  (State.commit_expire (pick := fun s => (s.nu.lamp lamp).stretch) h.1 hleft _).trans
    (congrArg Host.Outcome.next (State.deliver_none h.2))

end

end Sys2Proof.Machine

open Sys2Proof.Machine in
/-- Settles O52: each request leaves its answer beside the notices that it acknowledges (`exec_ackHead`, `exec_ackNotice`,
`exec_ackAll`), and after ACK_ALL the list has no RAISED notice to hold (`Nu.ackEvery_list`). -/
theorem acknowledgementsTaken : Obligations.AcknowledgementsTaken := by
  intro s n h hsound m one
  refine ⟨fun hempty => exec_ackHead h (State.ackHead_empty hempty) rfl,
    fun k hk => exec_ackHead h (State.ackHead_listed hk) rfl,
    fun hn => exec_ackNotice h (State.ackNotice_badIndex hn) rfl,
    fun hn hr => exec_ackNotice h (State.ackNotice_state hn hr) rfl,
    fun hn hr => exec_ackNotice h (State.ackNotice_raised hn hr) rfl,
    _, exec_ackAll h, s.nu.ackEvery_list _, rfl, fun k hk => ?_, rfl⟩
  refine (Nu.noticeAt_ackEvery (hsound.1 ▸ hk) _).trans ?_
  dsimp only
  split
  · next hraised => exact Notice.onAck_raised hraised _
  · next hother => exact Notice.onAck_other hother _

open Sys2Proof.Machine in
/-- Settles O53: a running lamp timer's time passes, and the phase or the stretch ends (`exec_flashTimerExpiry`,
`exec_stretchTimerExpiry`). -/
theorem lampTimersRun : Obligations.LampTimersRun := by
  intro s left h u off
  exact ⟨fun hleft => exec_flashTimerExpiry (lamp := .red) h hleft, fun hleft => exec_flashTimerExpiry (lamp := .amber) h hleft,
    fun hleft => exec_stretchTimerExpiry (lamp := .red) h hleft, fun hleft => exec_stretchTimerExpiry (lamp := .amber) h hleft⟩
end

-- ==== Proofs of sitting 9: transactions and responses ====

section
/-! PROOFS. The Controller Link: a transaction's start and end (11 R175 to R177, R185), the preparation of a response (R178),
READ_NOTICES (09 R155), and READY, ATTN and SDO. -/

namespace Sys2Proof.Machine

/-! ### The end of a transaction (R177) -/

theorem holdsRequest_iff {bytes : List Byte} : holdsRequest bytes = true ↔ 1 ≤ bytes.length ∧ bytes.getD 0 0 ≠ 0 := by
  cases bytes <;> simp [holdsRequest]

section
variable {l : Link} {x : Transaction} {bytes : List Byte}

/-- The waiting response is consumed by a transaction that began in READY and reached its end. -/
theorem Link.consumed_iff {r : List Byte} (hr : l.response = some r) :
    l.consumed x bytes = true ↔ x.beganReady = true ∧ r.length ≤ bytes.length := by
  simp [Link.consumed, hr]

theorem Link.finish_cut (h : l.transaction = none) : l.finish bytes = { l with transaction := none } := by
  cases l; cases h; rfl

theorem Link.finish_judged (h : l.transaction = some x) : l.finish bytes = { l.judged x bytes with transaction := none } := by
  simp only [Link.finish, h]

theorem Link.judged_silent (hst : l.state ≠ .ready) (hq : holdsRequest bytes = false) : l.judged x bytes = l := by
  cases h : l.state <;> simp_all [Link.judged]

theorem Link.judged_idle (hst : l.state = .idle) (hq : holdsRequest bytes = true) :
    l.judged x bytes = l.takeRequest bytes := by
  simp [Link.judged, hst, hq]

theorem Link.judged_working (hst : l.state = .working) (hq : holdsRequest bytes = true) :
    l.judged x bytes = l.discardRequest := by
  simp [Link.judged, hst, hq]

theorem Link.judged_consumed (hst : l.state = .ready) (hc : l.consumed x bytes = true) :
    l.judged x bytes =
      if holdsRequest bytes then l.takeRequest bytes else { l with state := .idle, response := none } := by
  simp only [Link.judged, hst, hc, if_true]

theorem Link.judged_unconsumed (hst : l.state = .ready) (hc : l.consumed x bytes = false) :
    l.judged x bytes = if holdsRequest bytes then l.discardRequest else l := by
  simp only [Link.judged, hst, hc, Bool.false_eq_true, if_false]

end

/-! ### READ_NOTICES (09 R155) -/

theorem Nu.listEntry_none {nu : Nu} {k : Nat} (h : nu.list[k]? = none) : nu.listEntry k = [255, 255] := by
  rw [Nu.listEntry, h]
  simp [optBe, toBe, absentMark]

theorem Nu.listEntry_some {nu : Nu} {k n : Nat} (h : nu.list[k]? = some n) :
    nu.listEntry k = toBe 1 n ++ toBe 1 (noticeAt nu.notices n).state.code := by
  rw [Nu.listEntry, h]
  rfl

/-! ### The commands of the link -/

section
variable {s : State}

theorem exec_transactionStart (h : s.Ready) (hcs : s.pins.csLow = false) :
    exec .transactionStart s = .next { s with pins := { s.pins with csLow := true }, link := s.link.begin } := by
  simp only [exec, execTransactionStart, State.commitPins_running h.1, hcs, Bool.false_eq_true, if_false]
  exact congrArg Host.Outcome.next (State.deliver_none h.2)

theorem exec_transactionEnd (h : s.Ready) (bytes : List Byte) :
    exec (.transactionEnd bytes) s =
      .next { s with pins := { s.pins with csLow := false }, link := s.link.finish bytes } := by
  simp only [exec, execTransactionEnd, State.commitPins_running h.1]
  exact congrArg Host.Outcome.next (State.deliver_none h.2)

theorem exec_readNotices (h : s.Ready) : exec .readNotices s = .next (s.ask .notices) := State.commit_ask h.1 h.2 .notices

theorem exec_responseReady (h : s.Ready) : exec .responseReady s = .next s.prepare := by
  have hin : s.prepare.inbox = [] := by
    rw [State.prepare_frame]
    exact h.2
  exact (State.commit_running h.1 State.prepare).trans (congrArg Host.Outcome.next (State.deliver_none hin))

/-- No response is prepared where no request waits with its answer. -/
theorem State.prepare_unanswered (h : s.link.state ≠ .working ∨ s.link.answer = none) : s.prepare = s := by
  unfold State.prepare
  split
  · next hst hans => simp [hst, hans] at h
  · rfl

/-- A response carries OVERLAP and the change flag as they stand when it is prepared (R178). -/
theorem responseFrame_eq (code : Nat) (result : ResultCode) (payload : List Byte) (overlap changed : Bool) :
    responseFrame code result payload overlap changed =
      [BitVec.ofNat 8 code, BitVec.ofNat 8 result.code, (if overlap then 1 else 0) + (if changed then 2 else 0),
        BitVec.ofNat 8 payload.length] ++ payload := by
  rw [responseFrame, responseFlags_byte]

/-! ### The lines of a running part (R175, R177; 09 R152) -/

theorem State.readyLine_iff (h : s.phase = .running) : s.readyLine = true ↔ s.link.state = .ready := by
  simp [State.readyLine, h]

theorem State.attnLine_iff (h : s.phase = .running) : s.attnLine = true ↔ s.nu.changed = true := by
  simp [State.attnLine, h]

theorem State.sdoByte_none (h : s.phase = .running) (ht : s.link.transaction = none) (k : Nat) : s.sdoByte k = 0 := by
  simp only [State.sdoByte, h, ht]

theorem State.sdoByte_some (h : s.phase = .running) {x : Transaction} (ht : s.link.transaction = some x) (k : Nat) :
    s.sdoByte k = x.sdo.getD k 0 := by
  simp only [State.sdoByte, h, ht]

end

end Sys2Proof.Machine

open Sys2Proof Sys2Proof.Machine in
/-- Settles O59: the end of a transaction is `Link.finish`, which judges it line by line as R177's table does
(`Link.judged_idle`, `Link.judged_working`, `Link.judged_consumed`, `Link.judged_unconsumed`); a response is prepared by
`State.prepare`, from the notices as they stand (`Nu.payload`). -/
theorem linkMoves : Obligations.LinkMoves := by
  intro s bytes h l request ends taken ready listed many
  have hrequest : request ↔ holdsRequest bytes = true := holdsRequest_iff.symm
  have hend {y : Link} (hfinish : l.finish bytes = { y with transaction := none }) : ends y := by
    refine (exec_transactionEnd h bytes).trans ?_
    rw [hfinish]
  have hjudged {x : Transaction} (hx : l.transaction = some x) {y : Link} (hy : l.judged x bytes = y) : ends y :=
    hend ((Link.finish_judged hx).trans (by rw [hy]))
  have hdone (code : Nat) (result : ResultCode) (payload : List Byte) :
      ready code result payload =
        { l with
          state := .ready, request := none, answer := none
          response := some (responseFrame code result payload l.overlap s.nu.changed) } := by
    rw [responseFrame_eq]
  refine ⟨fun hcs => ?_, fun hcut => hend (Link.finish_cut hcut), fun x hx => ?_, fun code result payload hst hans => ?_,
    fun hnone => ?_, exec_readNotices h, fun hst hans => ?_, State.readyLine_iff h.1, State.attnLine_iff h.1, fun k => ?_⟩
  · rw [exec_transactionStart h hcs]
    rfl
  · rw [hrequest]
    simp only [Bool.not_eq_true]
    refine ⟨fun hst hq => hjudged hx (Link.judged_silent (by simp [hst]) hq), fun hst hq => hjudged hx (Link.judged_idle hst hq),
      fun hst hq => hjudged hx (Link.judged_silent (by simp [hst]) hq), fun hst hq hnone => ?_, fun r hst hr => ?_⟩
    · refine hjudged hx ((Link.judged_working hst hq).trans ?_)
      simp [Link.discardRequest, hnone]
    · have hconsumed := Link.consumed_iff (x := x) (bytes := bytes) hr
      have hwaits (hshort : x.beganReady = false ∨ bytes.length < r.length) : l.consumed x bytes = false := by
        rw [← Bool.not_eq_true, hconsumed]
        rintro ⟨hbegan, hlong⟩
        rcases hshort with hshort | hshort
        · simp [hbegan] at hshort
        · omega
      refine ⟨fun hbegan hlong hq => ?_, fun hbegan hlong hq => ?_, fun hshort hq => ?_, fun hshort hq => ?_⟩
      · exact hjudged hx ((Link.judged_consumed hst (hconsumed.mpr ⟨hbegan, hlong⟩)).trans (if_pos hq))
      · exact hjudged hx ((Link.judged_consumed hst (hconsumed.mpr ⟨hbegan, hlong⟩)).trans (if_neg (by simp [hq])))
      · exact hjudged hx ((Link.judged_unconsumed hst (hwaits hshort)).trans (if_neg (by simp [hq])))
      · refine hjudged hx ((Link.judged_unconsumed hst (hwaits hshort)).trans ((if_pos hq).trans ?_))
        rw [Link.discardRequest, hr]
        rfl
  · rw [exec_responseReady h, State.prepare_answered hst hans, hdone]
    rfl
  · rw [exec_responseReady h, State.prepare_unanswered hnone]
  · have hlisted : listed = s.nu.listEntry := by
      funext k
      cases hk : s.nu.list[k]? with
      | none => simp only [listed, hk, Nu.listEntry_none hk]
      | some n => simp only [listed, hk, Nu.listEntry_some hk]
    rw [exec_responseReady h, State.prepare_answered hst hans, hdone, hlisted]
    rfl
  · cases ht : s.link.transaction with
    | none => exact State.sdoByte_none h.1 ht k
    | some x => exact State.sdoByte_some h.1 ht k
end

-- ==== Proofs of sitting 10: currents, targets and figures in their ranges ====

section
/-! PROOFS. The ranges of the Valve Drive (10 R160 to R163) and of the figures from which owners work targets out (06 R98, 07
R118): what each operation on a channel, on the drive test, on the floor record and on T keeps of them. -/

namespace Sys2Proof.Machine

/-! ### Channels -/

/-- Start current and slow current lie within Imax (R160). -/
def ChannelConfig.Sound (c : ChannelConfig) : Prop := c.start ≤ c.imax ∧ c.slow.getD 0 ≤ c.imax

/-- A current that a channel may drive: 0, or between start current and Imax (R163). -/
def ChannelConfig.Drives (c : ChannelConfig) (current : Nat) : Prop :=
  current = 0 ∨ (c.start ≤ current ∧ current ≤ c.imax)

/-- The owner's target lies within Imax and the commanded current in its range, at 0 while the channel is FAULTED or the supply
LOW (R162, R163). -/
def Channel.Within (cfg : ChannelConfig) (low : Bool) (c : Channel) : Prop :=
  c.owner ≤ cfg.imax ∧ cfg.Drives c.commanded ∧ ((c.fault.isSome = true ∨ low = true) → c.commanded = 0)

section
variable {cfg : ChannelConfig} {low : Bool} {c : Channel}

theorem Channel.Within.switchOff (h : c.Within cfg low) (low' : Bool) : c.switchOff.Within cfg low' :=
  ⟨h.1, .inl rfl, fun _ => rfl⟩

/-- A supply that is NORMAL again asks less of a channel. -/
theorem Channel.Within.normal (h : c.Within cfg low) : c.Within cfg false := by
  obtain ⟨howner, hdrives, hoff⟩ := h
  exact ⟨howner, hdrives, fun hfault => hoff (.inl (hfault.resolve_right Bool.false_ne_true))⟩

/-- The effective target of a target within Imax is a current that the channel may drive (R162). -/
theorem ChannelConfig.Sound.drives_effectiveOf (hcfg : cfg.Sound) {target : Nat} (h : target ≤ cfg.imax) :
    cfg.Drives (effectiveOf cfg.start target) := by
  rw [effectiveOf_eq, ChannelConfig.Drives]
  split
  · exact .inl rfl
  · exact .inr ⟨le_max_left _ _, max_le hcfg.1 h⟩

/-- Each line of R163's table leads from one current of the range to another. -/
theorem ChannelConfig.Drives.rampNext {current effective : Nat} (h : cfg.Drives current) (he : cfg.Drives effective) :
    cfg.Drives (rampNext cfg current effective) := by
  unfold ChannelConfig.Drives at *
  unfold Machine.rampNext
  repeat' split
  all_goals omega

theorem Channel.Within.ramped (h : c.Within cfg low) {effective : Nat} (he : cfg.Drives effective) (now : Nat)
    (sensed : List Nat) : (c.ramped cfg low effective now sensed).Within cfg low := by
  obtain ⟨howner, hdrives, -⟩ := h
  refine ⟨howner, ?_, fun hoff => ?_⟩
  · change cfg.Drives (commandedNext cfg low c effective)
    unfold commandedNext
    split
    · exact .inl rfl
    · exact hdrives.rampNext he
  · have hheld : c.fault.isSome = true ∨ low = true := hoff
    exact if_pos (by simpa [or_comm] using hheld)

/-- A new configuration brings the commanded current into its own range, and leaves 0 at 0 (R161). -/
theorem ChannelConfig.Sound.drives_currentUnder (hcfg : cfg.Sound) (c : Channel) : cfg.Drives (c.currentUnder cfg) := by
  unfold Channel.currentUnder
  split
  · exact .inl rfl
  · exact .inr ⟨le_max_left _ _, max_le hcfg.1 (min_le_left _ _)⟩

end

/-! ### The Valve Drive -/

theorem Vd.setChan_chan_same (v : Vd) {ch : Nat} (h : ch < v.chans.length) (c : Channel) : (v.setChan ch c).chan ch = c := by
  simp [Vd.setChan, Vd.chan, List.getD_eq_getElem?_getD, h]

theorem Vd.setChan_chan_other (v : Vd) {ch k : Nat} (h : ch ≠ k) (c : Channel) : (v.setChan ch c).chan k = v.chan k := by
  simp [Vd.setChan, Vd.chan, List.getD_eq_getElem?_getD, h]

/-- An index past the channels names none. -/
theorem Vd.setChan_past (v : Vd) {ch : Nat} (h : v.chans.length ≤ ch) (c : Channel) : v.setChan ch c = v := by
  rw [Vd.setChan, List.set_eq_of_length_le h]

theorem Vd.chan_mapChans {v w : Vd} {f : Channel → Channel} (hw : w.chans = v.chans.map f) {k : Nat}
    (hk : k < v.chans.length) : w.chan k = f (v.chan k) := by
  simp [Vd.chan, hw, List.getD_eq_getElem?_getD, hk]

/-- Four channels in their ranges, and a test target within its channel's Imax (R162, R163, R171). -/
def Vd.Within (r : Retained) (v : Vd) : Prop :=
  v.chans.length = 4 ∧ (∀ ch, ch < 4 → (v.chan ch).Within (r.config ch) v.supplyLow) ∧
    ∀ x ∈ v.test, x.current ≤ (r.config x.channel).imax

namespace Vd.Within

variable {r : Retained} {v : Vd}

theorem chan (h : v.Within r) {ch : Nat} (hch : ch < 4) : (v.chan ch).Within (r.config ch) v.supplyLow := h.2.1 ch hch

theorem setChan (h : v.Within r) (ch : Nat) {c : Channel} (hc : ch < 4 → c.Within (r.config ch) v.supplyLow) :
    (v.setChan ch c).Within r := by
  obtain ⟨hlength, hchans, htest⟩ := h
  refine ⟨List.length_set.trans hlength, fun k hk => ?_, htest⟩
  by_cases hch : ch = k
  · subst hch
    rw [v.setChan_chan_same (by omega)]
    exact hc hk
  · rw [v.setChan_chan_other hch]
    exact hchans k hk

theorem hand (h : v.Within r) (ch : Nat) {target : Nat} (ht : target ≤ (r.config ch).imax) : (v.hand ch target).Within r :=
  h.setChan ch fun hch => ⟨ht, (h.chan hch).2⟩

/-- The same is done to every channel, and a test stands. -/
theorem mapChans (h : v.Within r) {w : Vd} {f : Channel → Channel} (hw : w.chans = v.chans.map f)
    (htest : w.test = v.test)
    (hf : ∀ (cfg : ChannelConfig) (c : Channel), c.Within cfg v.supplyLow → (f c).Within cfg w.supplyLow) : w.Within r := by
  obtain ⟨hlength, hchans, hcurrent⟩ := h
  refine ⟨by rw [hw, List.length_map, hlength], fun k hk => ?_, htest ▸ hcurrent⟩
  rw [Vd.chan_mapChans hw (by omega)]
  exact hf _ _ (hchans k hk)

theorem elapse (h : v.Within r) (dt : Nat) : (v.elapse dt).Within r := h.mapChans rfl rfl fun _ _ hc => hc

theorem endTest (h : v.Within r) : v.endTest.Within r := ⟨h.1, h.2.1, fun _ hx => nomatch hx⟩

theorem judgeSupply (h : v.Within r) (down up supply : Nat) : (v.judgeSupply down up supply).Within r := by
  rw [Vd.judgeSupply_eq]
  exact h

theorem takeFault (h : v.Within r) (ch : Nat) (kind : FaultKind) : (v.takeFault ch kind).Within r := by
  have hoff : (v.setChan ch { (v.chan ch).switchOff with fault := some kind }).Within r :=
    h.setChan ch fun hch => ⟨(h.chan hch).1, .inl rfl, fun _ => rfl⟩
  unfold Vd.takeFault Vd.endTestOf
  repeat' split
  · exact hoff.endTest
  · exact hoff
  · exact hoff

theorem targetInForce_le (h : v.Within r) {ch : Nat} (hch : ch < 4) : v.targetInForce ch ≤ (r.config ch).imax := by
  unfold Vd.targetInForce Vd.testTarget
  split
  · next x hx =>
    split
    · next hchannel => exact hchannel ▸ h.2.2 x hx
    · exact (h.chan hch).1
  · exact (h.chan hch).1

theorem startTest (h : v.Within r) (ch current duration : Nat) :
    (v.startTest ch (clampNat 0 (r.config ch).imax current) duration).Within r := by
  refine ⟨h.1, h.2.1, fun x hx => ?_⟩
  cases hx
  exact clampNat_le (Nat.zero_le _) _

theorem clear (h : v.Within r) (ch : Nat) : (v.setChan ch (v.chan ch).cleared).Within r := by
  refine h.setChan ch fun hch => ?_
  obtain ⟨howner, hdrives, hoff⟩ := h.chan hch
  exact ⟨howner, hdrives, fun hlow => hoff (.inr (hlow.resolve_left Bool.false_ne_true))⟩

/-- A new configuration with the target that is handed back for it (R161): the channel is brought into its new range, a test
target within the new Imax, and nothing is asked of the others. -/
theorem applyConfig (h : v.Within r) {ch target : Nat} {c : ChannelConfig} (hch : ch < r.configs.length) (hc : c.Sound)
    (ht : target ≤ c.imax) :
    ((v.applyConfig ch c).hand ch target).Within { r with configs := r.configs.set ch c } := by
  obtain ⟨hlength, hchans, htest⟩ := h
  have hsame := r.config_set_same c hch
  have hlengthA := (v.applyConfig_length ch c).trans hlength
  refine ⟨(Vd.hand_length _).trans hlengthA, fun k hk => ?_, fun y hy => ?_⟩
  · by_cases hk' : ch = k
    · subst hk'
      obtain ⟨-, -, hoff⟩ := hchans ch hk
      have hdrives := hc.drives_currentUnder (v.chan ch)
      rw [Vd.hand_chan_same _ (by omega), Vd.applyConfig_chan_same (by omega), hsame]
      split
      · next hkept => exact ⟨ht, hkept ▸ hdrives, hoff⟩
      · exact ⟨ht, hdrives, fun hlow => if_pos (hoff hlow)⟩
    · rw [Vd.hand_chan_other _ hk', Vd.applyConfig_chan_other _ _ _ hk', r.config_set_other hk']
      exact hchans k hk
  · obtain ⟨x, hx, rfl⟩ := Option.map_eq_some_iff.mp hy
    split
    · next hchannel =>
      rw [hchannel, hsame]
      exact min_le_right _ _
    · next hchannel =>
      rw [r.config_set_other (Ne.symm hchannel)]
      exact htest x hx

end Vd.Within

/-! ### Targets that owners work out (05 R83, 06 R98, 07 R119) -/

theorem slewTarget_le {cfg : ChannelConfig} (h : cfg.Sound) (d : DirState) : slewTarget cfg d ≤ cfg.imax := by
  cases d
  · exact Nat.zero_le _
  · exact h.2
  · exact le_rfl

theorem rndDiv_le {n : Int} {m d : Nat} (hd : 0 < d) (h : n ≤ (m : Int) * d) : rndDiv n d ≤ m := by
  unfold rndDiv
  split
  · have hn : n.toNat ≤ m * d := Int.toNat_le.mpr (by exact_mod_cast h)
    have hlt : 2 * n.toNat + d < (m + 1) * (2 * d) := by
      calc 2 * n.toNat + d ≤ 2 * (m * d) + d := by omega
        _ < 2 * (m * d) + 2 * d := by omega
        _ = (m + 1) * (2 * d) := by ring
    exact_mod_cast Nat.lt_succ_iff.mp ((Nat.div_lt_iff_lt_mul (by omega)).mpr hlt)
  · exact (Int.neg_nonpos_of_nonneg (Int.natCast_nonneg _)).trans (Int.natCast_nonneg m)

theorem torqueTarget_le (imax : Nat) {torque : Nat} (h : 40 ≤ torque) : torqueTarget imax torque ≤ imax := by
  refine Int.toNat_le.mpr (rndDiv_le (by decide) ?_)
  exact mul_le_mul_of_nonneg_left (by omega) (Int.natCast_nonneg imax)

theorem nearTarget_le (imax : Nat) {band : Nat} {dF : Int} (hpos : 0 < dF) (h : dF < band) :
    nearTarget imax band dF ≤ imax := by
  refine Int.toNat_le.mpr (rndDiv_le (by omega) ?_)
  exact mul_le_mul_of_nonneg_left (by omega) (Int.natCast_nonneg imax)

/-- A floor record whose target lies within Imax2 and whose distance, in NEAR, lies within its band (06 R98). -/
def FloorRecord.Sound (imax : Nat) (f : FloorRecord) : Prop :=
  f.target ≤ imax ∧
    ((f.state = .near ∨ f.held = some .near) → 0 < f.dF.getD 0 ∧ f.dF.getD 0 < (f.band.getD 0 : Nat))

theorem floorTarget_le (imax : Nat) {state : FloorState} {band : Option Nat} {dF : Option Int}
    (h : state = .near → 0 < dF.getD 0 ∧ dF.getD 0 < (band.getD 0 : Nat)) : floorTarget imax state band dF ≤ imax := by
  cases state
  case near => exact nearTarget_le imax (h rfl).1 (h rfl).2
  case atFloor => exact le_rfl
  all_goals exact Nat.zero_le _

namespace FloorRecord.Sound

variable {imax : Nat} {f : FloorRecord}

theorem start (imax : Nat) : startFloor.Sound imax := ⟨Nat.zero_le _, fun h => by rcases h with h | h <;> cases h⟩

theorem unavailable (imax : Nat) : floorUnavailable.Sound imax :=
  ⟨Nat.zero_le _, fun h => by rcases h with h | h <;> cases h⟩

theorem measured (ret : Retained) (phi : Nat) (x y z : Int) :
    (floorMeasured ret phi x y z).Sound (ret.config 2).imax := by
  unfold floorMeasured
  split
  · exact start _
  · next i dF _ =>
    have hnear (h : floorStateOf ret.settings.floorBand dF = .near) : 0 < dF ∧ dF < ret.settings.floorBand := by
      unfold floorStateOf at h
      split at h
      · cases h
      split at h
      · omega
      · cases h
    exact ⟨floorTarget_le _ hnear, fun h => hnear (h.resolve_right nofun)⟩

/-- An evaluation measures a record, or holds the one that stands, whose target and distance it keeps (R99). -/
theorem next {ret : Retained} (h : f.Sound (ret.config 2).imax) (p : Pose) :
    (floorNext ret p f).Sound (ret.config 2).imax := by
  unfold floorNext
  split
  · exact measured ret _ _ _ _
  split
  · exact start _
  split
  · exact h
  · exact h
  · refine ⟨h.1, fun hnear => h.2 (.inl ?_)⟩
    exact Option.some.inj (hnear.resolve_left nofun)

/-- The target of a record worked out afresh from a new Imax2 (R101). -/
theorem restated (h : f.Sound imax) (ret : Retained) : (restatedFloor ret f).Sound (ret.config 2).imax := by
  refine ⟨floorTarget_le _ fun hnear => h.2 ?_, h.2⟩
  split at hnear
  · cases hheld : f.held with
    | none =>
      rw [hheld] at hnear
      cases hnear
    | some held =>
      rw [hheld] at hnear
      exact .inr (congrArg some hnear)
  · exact .inl hnear

end FloorRecord.Sound

/-! ### T and its figures (07 R118) -/

theorem le_clampNat {lo hi : Nat} (h : lo ≤ hi) (v : Int) : lo ≤ clampNat lo hi v := by
  have hcast := clampNat_cast h v
  omega

/-- An item that carries no derate below 40 % (08 R128). -/
def Item.DerateSound (it : Item) : Prop := ∀ d ∈ it.derate, 40 ≤ d

namespace Retained.FiguresSound

variable {r : Retained}

theorem baseTorque_range (h : r.FiguresSound) (st : EconomyState) : 40 ≤ baseTorque r st ∧ baseTorque r st ≤ 100 := by
  obtain ⟨hlength, hmodes, hselected, hidle, hidle', -⟩ := h
  unfold baseTorque
  split
  · refine hmodes _ ?_
    rw [Retained.mode, List.getD_eq_getElem _ _ (by omega)]
    exact List.getElem_mem _
  · exact ⟨hidle, hidle'⟩

theorem torqueLimit_range (h : r.FiguresSound) (st : EconomyState) (latch : Bool) :
    40 ≤ torqueLimit r st latch ∧ torqueLimit r st latch ≤ 100 := by
  obtain ⟨hlo, hhi⟩ := h.baseTorque_range st
  obtain ⟨-, -, -, -, -, hoil, hderates⟩ := h
  have hfigure : 40 ≤ engineFigure r st latch ∧ engineFigure r st latch ≤ 100 := by
    unfold engineFigure
    split <;> omega
  refine ⟨?_, (torqueLimit_le r st latch).1.trans hfigure.2⟩
  rcases torqueLimit_mem r st latch with hleast | hderate
  · exact hleast ▸ hfigure.1
  · obtain ⟨it, hit, -, hd⟩ := mem_criticalDerates.mp hderate
    exact hderates _ hit it rfl _ hd

theorem setItems (h : r.FiguresSound) {items : List (Option Item)} (hitems : ∀ e ∈ items, ∀ it ∈ e, it.DerateSound) :
    Retained.FiguresSound { r with items := items } := by
  obtain ⟨hlength, hmodes, hselected, hidle, hidle', hoil, -⟩ := h
  exact ⟨hlength, hmodes, hselected, hidle, hidle', hoil, hitems⟩

theorem derates (h : r.FiguresSound) : ∀ e ∈ r.items, ∀ it ∈ e, it.DerateSound := by
  obtain ⟨-, -, -, -, -, -, hderates⟩ := h
  exact hderates

theorem setItem (h : r.FiguresSound) (i : Nat) {e : Option Item} (he : ∀ it ∈ e, it.DerateSound) :
    Retained.FiguresSound { r with items := r.items.set i e } := by
  refine h.setItems fun e' hmem => ?_
  rcases List.mem_or_eq_of_mem_set hmem with hold | rfl
  · exact h.derates e' hold
  · exact he

/-- No event writes a derate (08 R131 to R133). -/
theorem served (h : r.FiguresSound) (concerns : ServiceBasis → Bool) {change : Item → Item}
    (hderate : ∀ it, (change it).derate = it.derate) :
    Retained.FiguresSound { r with items := r.served concerns change } := by
  refine h.setItems fun e' hmem it' hit' => ?_
  obtain ⟨e, he, rfl⟩ := List.mem_map.mp hmem
  obtain ⟨it, hit, rfl⟩ := Option.map_eq_some_iff.mp hit'
  have hkept : (if concerns it.basis then (change it).evaluated r else it).derate = it.derate := by
    split
    · exact hderate it
    · rfl
  rw [Item.DerateSound, hkept]
  exact h.derates e he it hit

theorem evaluated (h : r.FiguresSound) : r.evaluated.FiguresSound := h.served (fun _ => true) (change := id) fun _ => rfl

theorem setMode (h : r.FiguresSound) (i : Nat) {m : WorkMode} (hm : 40 ≤ m.torque ∧ m.torque ≤ 100) :
    Retained.FiguresSound { r with modes := r.modes.set i m } := by
  obtain ⟨hlength, hmodes, hrest⟩ := h
  refine ⟨List.length_set.trans hlength, fun m' hmem => ?_, hrest⟩
  rcases List.mem_or_eq_of_mem_set hmem with hold | rfl
  · exact hmodes m' hold
  · exact hm

theorem select (h : r.FiguresSound) {i : Nat} (hi : i < 4) : Retained.FiguresSound { r with selectedMode := i } := by
  obtain ⟨hlength, hmodes, -, hrest⟩ := h
  exact ⟨hlength, hmodes, hi, hrest⟩

/-- A write of a setting clamps the idle torque and the oil derate torque to 40..100 % (R109). -/
theorem written (h : r.FiguresSound) (v : Int) (n : Nat) :
    Retained.FiguresSound { r with settings := r.settings.written v n } := by
  obtain ⟨hlength, hmodes, hselected, hidle, hidle', hoil, hderates⟩ := h
  have hclamped : 40 ≤ clampNat 40 100 v ∧ clampNat 40 100 v ≤ 100 :=
    ⟨le_clampNat (by decide) v, clampNat_le (by decide) v⟩
  by_cases hn : n = 25 ∨ n = 27
  · rcases hn with rfl | rfl
    · exact ⟨hlength, hmodes, hselected, hclamped.1, hclamped.2, hoil, hderates⟩
    · exact ⟨hlength, hmodes, hselected, hidle, hidle', hclamped.1, hderates⟩
  · obtain ⟨hidleKept, hoilKept⟩ := r.settings.written_torques v (not_or.mp hn)
    exact ⟨hlength, hmodes, hselected, hidleKept.symm ▸ hidle, hidleKept.symm ▸ hidle', hoilKept.symm ▸ hoil, hderates⟩

end Retained.FiguresSound

/-! ### What requests write -/

theorem workModeOf_torque (p : List Byte) : 40 ≤ (workModeOf p).torque ∧ (workModeOf p).torque ≤ 100 :=
  ⟨le_clampNat (by decide) _, clampNat_le (by decide) _⟩

theorem channelOf_sound (ch : Nat) (p : List Byte) : (channelOf ch p).Sound := by
  refine ⟨clampNat_le (Nat.zero_le _) _, ?_⟩
  unfold channelOf
  dsimp only
  split
  · exact clampNat_le (Nat.zero_le _) _
  · exact Nat.zero_le _

theorem defaultConfig_sound {ch : Nat} (h : ch < 4) : (defaultConfig ch).Sound := by
  interval_cases ch <;> exact ⟨by decide, by decide⟩

theorem itemOf_derateSound {p : List Byte} {it : Item} (h : itemOf p = some it) : it.DerateSound := by
  unfold itemOf at h
  split at h
  · cases h
  dsimp only at h
  split at h
  · next hchecks =>
    obtain ⟨-, -, -, -, hderate, -⟩ := hchecks
    cases h
    intro d hd
    have hd : fieldOpt p 13 1 = some d := hd
    simpa [hd] using hderate
  · cases h

theorem Item.placed_derate (r : Retained) (old : Option Item) (it : Item) : (it.placed r old).derate = it.derate := by
  unfold Item.placed
  repeat' split
  all_goals rfl

/-! ### A ramp expiry: the channel that it leaves, and the fault that it completes (R163, R166) -/

section
variable {s : State} {ch : Nat} {sensed : List Nat}

/-- The channel that a ramp expiry leaves, before a fault is taken. -/
def State.rampedChannel (s : State) (ch : Nat) (sensed : List Nat) : Channel :=
  (s.vd.chan ch).ramped (s.ret.config ch) s.vd.supplyLow (effectiveTarget s.ret s.vd ch) s.now sensed

theorem State.rampExpires_spared (h : (s.rampedChannel ch sensed).faultDue = none) :
    s.rampExpires ch sensed = { s with vd := s.vd.setChan ch (s.rampedChannel ch sensed) } := by
  unfold State.rampedChannel at h
  simp only [State.rampExpires, h]
  rfl

theorem State.rampExpires_faulted {kind : FaultKind} (h : (s.rampedChannel ch sensed).faultDue = some kind) :
    s.rampExpires ch sensed =
      State.takeFault { s with vd := s.vd.setChan ch (s.rampedChannel ch sensed) } ch kind := by
  unfold State.rampedChannel at h
  simp only [State.rampExpires, h]
  rfl

end

end Sys2Proof.Machine
end

-- ==== Proofs of sitting 10: the drive through every step ====

section
/-! PROOFS. The ranges of the Valve Drive, of the floor record and of T, and the guard of the drive test (10 R160 to R163, R168,
R171, R172), followed through the commands at once. -/

namespace Sys2Proof.Machine

/-! ### The guard of the drive test -/

/-- A test runs of a channel that is not FAULTED (10 R171, R172). -/
def Vd.TestClear (v : Vd) : Prop := ∀ x ∈ v.test, (v.chan x.channel).fault = none

/-- The channels have the same faults, and a test, if any, runs of the same channel. -/
def Vd.SameGuard (v' v : Vd) : Prop :=
  (∀ ch, (v'.chan ch).fault = (v.chan ch).fault) ∧ v'.test.map DriveTest.channel = v.test.map DriveTest.channel

namespace Vd.SameGuard

theorem trans {v'' v' v : Vd} (h : v''.SameGuard v') (h' : v'.SameGuard v) : v''.SameGuard v :=
  ⟨fun ch => (h.1 ch).trans (h'.1 ch), h.2.trans h'.2⟩

theorem setChan (v : Vd) {ch : Nat} {c : Channel} (hc : c.fault = (v.chan ch).fault) : (v.setChan ch c).SameGuard v := by
  refine ⟨fun k => ?_, rfl⟩
  by_cases hk : ch = k
  · subst hk
    by_cases hlt : ch < v.chans.length
    · rw [v.setChan_chan_same hlt, hc]
    · rw [v.setChan_past (Nat.not_lt.mp hlt)]
  · rw [v.setChan_chan_other hk]

theorem hand (v : Vd) (ch target : Nat) : (v.hand ch target).SameGuard v := setChan v rfl

theorem mapChans {v w : Vd} {f : Channel → Channel} (hw : w.chans = v.chans.map f) (htest : w.test = v.test)
    (hf : ∀ c, (f c).fault = c.fault) : w.SameGuard v := by
  refine ⟨fun k => ?_, congrArg _ htest⟩
  by_cases hk : k < v.chans.length
  · rw [Vd.chan_mapChans hw hk, hf]
  · simp [Vd.chan, hw, List.getD_eq_getElem?_getD, hk]

theorem elapse (v : Vd) (dt : Nat) : (v.elapse dt).SameGuard v := mapChans rfl rfl fun _ => rfl

theorem judgeSupply (v : Vd) (down up supply : Nat) : (v.judgeSupply down up supply).SameGuard v := by
  rw [Vd.judgeSupply_eq]
  exact ⟨fun _ => rfl, rfl⟩

theorem applyConfig (v : Vd) (ch : Nat) (c : ChannelConfig) : (v.applyConfig ch c).SameGuard v := by
  refine ⟨(setChan v ?_).1, ?_⟩
  · exact (apply_ite Channel.fault _ _ _).trans (ite_self _)
  · rw [Vd.applyConfig, Option.map_map]
    refine congrFun (congrArg Option.map (funext fun x => ?_)) v.test
    exact (apply_ite DriveTest.channel _ _ _).trans (ite_self _)

end Vd.SameGuard

theorem Vd.TestClear.of_same {v' v : Vd} (h : v.TestClear) (hsame : v'.SameGuard v) : v'.TestClear := by
  intro x hx
  obtain ⟨hfaults, htest⟩ := hsame
  rw [Option.mem_def.mp hx] at htest
  obtain ⟨y, hy, hchannel⟩ := Option.map_eq_some_iff.mp htest.symm
  rw [hfaults, ← hchannel]
  exact h y hy

/-- A fault ends the test of its channel and leaves the channel of any other test as it was (R167, R172). -/
theorem Vd.TestClear.takeFault {v : Vd} (h : v.TestClear) (ch : Nat) (kind : FaultKind) : (v.takeFault ch kind).TestClear := by
  unfold Vd.takeFault Vd.endTestOf
  split
  · next x hx =>
    split
    · exact fun _ hy => nomatch hy
    · next hother =>
      intro y hy
      cases hy.symm.trans hx
      rw [v.setChan_chan_other (Ne.symm hother)]
      exact h x hx
  · next hnone => exact fun y hy => nomatch hnone.symm.trans hy

theorem Vd.TestClear.clear {v : Vd} (h : v.TestClear) (ch : Nat) : (v.setChan ch (v.chan ch).cleared).TestClear := by
  intro x hx
  by_cases hch : ch = x.channel ∧ ch < v.chans.length
  · rw [← hch.1, v.setChan_chan_same hch.2]
    rfl
  · by_cases heq : ch = x.channel
    · rw [v.setChan_past (Nat.not_lt.mp (not_and.mp hch heq))]
      exact h x hx
    · rw [v.setChan_chan_other heq]
      exact h x hx

/-- A test whose economy state allows it, of a channel that is not FAULTED. -/
theorem State.testSound_iff {s : State} :
    s.TestSound ↔ (s.vd.test.isSome = true → s.ec.state.allowsTest = true) ∧ s.vd.TestClear := by
  cases htest : s.vd.test <;> simp [State.TestSound, Vd.TestClear, htest, EconomyState.allowsTest_iff]

/-- Four configurations in their ranges (R160). -/
def Retained.ConfigsSound (r : Retained) : Prop := r.configs.length = 4 ∧ ∀ ch, ch < 4 → (r.config ch).Sound

theorem Retained.ConfigsSound.set {r : Retained} (h : r.ConfigsSound) (ch : Nat) {c : ChannelConfig} (hc : c.Sound) :
    Retained.ConfigsSound { r with configs := r.configs.set ch c } := by
  refine ⟨List.length_set.trans h.1, fun k hk => ?_⟩
  by_cases hch : ch = k
  · subst hch
    rw [r.config_set_same c (by rw [h.1]; exact hk)]
    exact hc
  · rw [r.config_set_other hch]
    exact h.2 k hk

/-- The invariant, part by part. -/
theorem State.driveSound_iff {s : State} :
    s.DriveSound ↔
      s.ret.ConfigsSound ∧ s.vd.Within s.ret ∧ s.gg.floor.Sound (s.ret.config 2).imax ∧ s.ret.FiguresSound ∧
        40 ≤ s.ec.torque ∧ s.ec.torque ≤ 100 := by
  simp only [State.DriveSound, Retained.ConfigsSound, ChannelConfig.Sound, Vd.Within, Channel.Within, ChannelConfig.Drives]
  constructor
  · rintro ⟨hchans, hconfigs, hch, htest, hrest⟩
    refine ⟨⟨hconfigs, fun ch h => ?_⟩, ⟨hchans, fun ch h => ?_, htest⟩, hrest⟩
    · obtain ⟨hstart, hslow, -⟩ := hch ch h
      exact ⟨hstart, hslow⟩
    · obtain ⟨-, -, hwithin⟩ := hch ch h
      exact hwithin
  · rintro ⟨⟨hconfigs, hcfg⟩, ⟨hchans, hch, htest⟩, hrest⟩
    exact ⟨hchans, hconfigs, fun ch h => ⟨(hcfg ch h).1, (hcfg ch h).2, hch ch h⟩, htest, hrest⟩

namespace State.DriveSound

variable {s : State}

/-! ### The ranges, owner by owner -/

theorem setVd (h : s.DriveSound) {v : Vd} (hv : s.vd.Within s.ret → v.Within s.ret) : State.DriveSound { s with vd := v } := by
  obtain ⟨hconfigs, hvd, hrest⟩ := driveSound_iff.mp h
  exact driveSound_iff.mpr ⟨hconfigs, hv hvd, hrest⟩

/-- Retained contents with other figures of T, in their ranges. -/
theorem setFigures (h : s.DriveSound) {r : Retained} (hconfigs : r.configs = s.ret.configs)
    (hr : s.ret.FiguresSound → r.FiguresSound) : State.DriveSound { s with ret := r } := by
  obtain ⟨-, -, -, hfigures, -⟩ := driveSound_iff.mp h
  have hconfig : r.config = s.ret.config := by
    unfold Retained.config
    rw [hconfigs]
  obtain ⟨hlength, hconfigsLength, hch, htest, hfloor, -, htorque⟩ := h
  refine ⟨hlength, hconfigs ▸ hconfigsLength, ?_, ?_, ?_, hr hfigures, htorque⟩
  · change ∀ ch, ch < 4 → (r.config ch).start ≤ (r.config ch).imax ∧ _
    rw [hconfig]
    exact hch
  · change ∀ x ∈ s.vd.test, x.current ≤ (r.config x.channel).imax
    rw [hconfig]
    exact htest
  · change s.gg.floor.target ≤ (r.config 2).imax ∧ _
    rw [hconfig]
    exact hfloor

theorem evaluateLimits (h : s.DriveSound) : s.evaluateLimits.DriveSound := by
  obtain ⟨⟨hlength, hcfg⟩, hvd, hrest⟩ := driveSound_iff.mp h
  refine driveSound_iff.mpr ⟨⟨hlength, hcfg⟩, ?_, hrest⟩
  rw [State.evaluateLimits_vd]
  exact (hvd.hand 0 (slewTarget_le (hcfg 0 (by decide)) _)).hand 1 (slewTarget_le (hcfg 1 (by decide)) _)

theorem setFloor (h : s.DriveSound) {f : FloorRecord} {hold : Timer}
    (hf : s.gg.floor.Sound (s.ret.config 2).imax → f.Sound (s.ret.config 2).imax) : (s.setFloor f hold).DriveSound := by
  obtain ⟨hconfigs, hvd, hfloor, hrest⟩ := driveSound_iff.mp h
  exact driveSound_iff.mpr ⟨hconfigs, hvd.hand 2 (hf hfloor).1, hf hfloor, hrest⟩

/-- T worked out from figures in their ranges lies in 40..100, and its target within Imax3 (R118, R119). -/
theorem workOutTorque (h : s.DriveSound) : s.workOutTorque.DriveSound := by
  obtain ⟨hconfigs, hvd, hfloor, hfigures, -⟩ := driveSound_iff.mp h
  have hrange := hfigures.torqueLimit_range s.ec.state s.ec.oilLatch
  refine driveSound_iff.mpr ⟨hconfigs, ?_, hfloor, hfigures, hrange⟩
  unfold State.workOutTorque
  split
  · exact hvd
  · exact hvd.hand 3 (torqueTarget_le _ hrange.1)

/-- The target that an owner hands back for a new configuration lies within the new Imax (R161). -/
theorem writeChannel (h : s.DriveSound) {ch : Nat} (hch : ch < 4) {c : ChannelConfig} (hc : c.Sound) :
    (s.writeChannel ch c).DriveSound := by
  obtain ⟨hconfigs, hvd, hfloor, hfigures, htorque⟩ := driveSound_iff.mp h
  have hlength := hconfigs.1
  have hsame := s.ret.config_set_same c (ch := ch) (by omega)
  have hkept (hother : ch ≠ 2) :
      s.gg.floor.Sound (Retained.config { s.ret with configs := s.ret.configs.set ch c } 2).imax := by
    rw [s.ret.config_set_other hother]
    exact hfloor
  have hwritten {target : Nat} (ht : target ≤ c.imax) := hvd.applyConfig (ch := ch) (by omega) hc ht
  have hrestated := hfloor.restated { s.ret with configs := s.ret.configs.set ch c }
  interval_cases ch
  · exact driveSound_iff.mpr
      ⟨hconfigs.set 0 hc, hwritten (hsame.symm ▸ slewTarget_le hc _), hkept (by decide), hfigures, htorque⟩
  · exact driveSound_iff.mpr
      ⟨hconfigs.set 1 hc, hwritten (hsame.symm ▸ slewTarget_le hc _), hkept (by decide), hfigures, htorque⟩
  · have htarget := hrestated.1.trans_eq (congrArg ChannelConfig.imax hsame)
    exact driveSound_iff.mpr ⟨hconfigs.set 2 hc, hwritten htarget, hrestated, hfigures, htorque⟩
  · exact driveSound_iff.mpr
      ⟨hconfigs.set 3 hc, hwritten (hsame.symm ▸ torqueTarget_le _ htorque.1), hkept (by decide), hfigures, htorque⟩

end State.DriveSound

namespace State.TestSound

variable {s : State}

/-! ### The guard, operation by operation -/

theorem setVd (h : s.TestSound) {v : Vd} (hv : v.SameGuard s.vd) : State.TestSound { s with vd := v } := by
  obtain ⟨hallowed, hclear⟩ := testSound_iff.mp h
  refine testSound_iff.mpr ⟨fun hsome => hallowed ?_, hclear.of_same hv⟩
  rw [← Option.isSome_map, ← hv.2, Option.isSome_map]
  exact hsome

theorem workOutTorque (h : s.TestSound) : s.workOutTorque.TestSound := by
  refine setVd (s := { s with ec := s.workOutTorque.ec }) (v := s.workOutTorque.vd) h ?_
  unfold State.workOutTorque
  split
  · exact ⟨fun _ => rfl, rfl⟩
  · exact .hand _ _ _

/-- A move of the economy state ends a test that the new state does not allow (R172). -/
theorem ecoMove (h : s.TestSound) (st : EconomyState) (auto shut wait : Timer) : (s.ecoMove st auto shut wait).TestSound := by
  obtain ⟨-, hclear⟩ := testSound_iff.mp h
  unfold State.ecoMove
  refine workOutTorque (s := State.report _ _) (testSound_iff.mpr ?_)
  dsimp only [State.report]
  split
  · next hallows => exact ⟨fun _ => hallows, hclear⟩
  · exact ⟨nofun, nofun⟩

theorem writeChannel (h : s.TestSound) {ch : Nat} (hch : ch < 4) (c : ChannelConfig) : (s.writeChannel ch c).TestSound := by
  obtain ⟨target, hvd⟩ := s.writeChannel_vd c hch
  rw [s.writeChannel_frame c hch]
  refine setVd (s := { s with ret := _, gg := _ }) h ?_
  have hguard : (s.writeChannel ch c).vd.SameGuard s.vd := hvd ▸ (Vd.SameGuard.hand _ _ _).trans (.applyConfig _ _ _)
  exact hguard

theorem takeFault (h : s.TestSound) (ch : Nat) (kind : FaultKind) : (s.takeFault ch kind).TestSound := by
  obtain ⟨hallowed, hclear⟩ := testSound_iff.mp h
  refine testSound_iff.mpr ⟨fun hsome => hallowed ?_, hclear.takeFault ch kind⟩
  have htest : (s.vd.takeFault ch kind).test.isSome = true := hsome
  unfold Vd.takeFault Vd.endTestOf at htest
  split at htest
  · next hx => exact congrArg Option.isSome hx
  · exact htest

theorem endTest (s : State) : State.TestSound { s with vd := s.vd.endTest } := fun _ hx => nomatch hx

/-- A test starts only where the economy state allows it and its channel is not FAULTED (R171). -/
theorem driveTest (h : s.TestSound) (ch c d : Nat) : (s.driveTest ch c d).1.TestSound := by
  unfold State.driveTest
  split
  · exact h
  split
  · exact h
  split
  · exact h
  split
  · exact h
  next hallows hclear =>
    refine testSound_iff.mpr ⟨fun _ => by simpa using hallows, fun x hx => ?_⟩
    cases hx
    have hfault : (s.vd.chan ch).fault = none := by simpa using hclear
    exact hfault

end State.TestSound

/-! ### Operations that keep both -/

/-- Where the drive was in its ranges it is, and where its test was guarded it is. -/
def State.DriveKept (t s : State) : Prop := (s.DriveSound → t.DriveSound) ∧ (s.TestSound → t.TestSound)

namespace State.DriveKept

variable {u s : State}

theorem refl (s : State) : s.DriveKept s := ⟨id, id⟩

theorem setVd (h : u.DriveKept s) {v : Vd} (hrange : u.vd.Within u.ret → v.Within u.ret) (hguard : v.SameGuard u.vd) :
    State.DriveKept { u with vd := v } s :=
  ⟨fun hs => (h.1 hs).setVd hrange, fun hs => (h.2 hs).setVd hguard⟩

/-- Contents that change but in their figures of T, which stay in their ranges. -/
theorem setFigures (h : u.DriveKept s) {r : Retained} (hconfigs : r.configs = u.ret.configs)
    (hr : u.ret.FiguresSound → r.FiguresSound) : State.DriveKept { u with ret := r } s :=
  ⟨fun hs => (h.1 hs).setFigures hconfigs hr, h.2⟩

theorem elapse (h : u.DriveKept s) (dt : Nat) : (u.elapse dt).DriveKept s :=
  setVd (u := { u.elapse dt with vd := u.vd }) h (fun hv => hv.elapse dt) (.elapse _ dt)

theorem report (h : u.DriveKept s) (rs : List Report) : (u.report rs).DriveKept s := h

theorem answer (h : u.DriveKept s) (code : Nat) (r : ResultCode) (p : List Byte) : (u.answer code r p).DriveKept s := h

theorem evaluateLimits (h : u.DriveKept s) : u.evaluateLimits.DriveKept s := by
  refine ⟨fun hs => (h.1 hs).evaluateLimits, fun hs => ?_⟩
  have hguard : u.evaluateLimits.vd.SameGuard u.vd := (Vd.SameGuard.hand _ _ _).trans (.hand _ _ _)
  exact State.TestSound.setVd (s := { u.evaluateLimits with vd := u.vd }) (h.2 hs) hguard

theorem setFloor (h : u.DriveKept s) {f : FloorRecord} {hold : Timer}
    (hf : u.gg.floor.Sound (u.ret.config 2).imax → f.Sound (u.ret.config 2).imax) : (u.setFloor f hold).DriveKept s :=
  ⟨fun hs => (h.1 hs).setFloor hf,
    fun hs => State.TestSound.setVd (s := { u.setFloor f hold with vd := u.vd }) (h.2 hs) (.hand _ _ _)⟩

theorem evaluateGrade (h : u.DriveKept s) : u.evaluateGrade.DriveKept s :=
  setFloor (u := { u with gg := { u.gg with guidance := guidanceOf u.ret u.gg.held } }) h fun hf => hf.next _

theorem workOutTorque (h : u.DriveKept s) : u.workOutTorque.DriveKept s :=
  ⟨fun hs => (h.1 hs).workOutTorque, fun hs => (h.2 hs).workOutTorque⟩

theorem writeChannel (h : u.DriveKept s) {ch : Nat} (hch : ch < 4) {c : ChannelConfig} (hc : c.Sound) :
    (u.writeChannel ch c).DriveKept s :=
  ⟨fun hs => (h.1 hs).writeChannel hch hc, fun hs => (h.2 hs).writeChannel hch c⟩

theorem derateReport (h : u.DriveKept s) (due : Bool) : (u.derateReport due).DriveKept s := by
  unfold State.derateReport
  split
  · exact h.workOutTorque
  · exact h

theorem serviceEvent (h : u.DriveKept s) (concerns : ServiceBasis → Bool) {change : Item → Item}
    (hderate : ∀ it, (change it).derate = it.derate) : (u.serviceEvent concerns change).DriveKept s := by
  rw [State.serviceEvent_eq]
  refine derateReport ?_ _
  exact h.setFigures rfl fun hr => hr.served concerns hderate

theorem writeItem (h : u.DriveKept s) (i : Nat) {it : Item} (hit : u.ret.FiguresSound → it.DerateSound) :
    (u.writeItem i it).DriveKept s := by
  unfold State.writeItem
  refine derateReport ?_ _
  refine h.setFigures rfl fun hr => hr.setItem i fun it' hit' => ?_
  cases hit'
  exact hit hr

theorem recompute (h : u.DriveKept s) : u.recompute.DriveKept s := by
  have hpublished : (u.publish u.nextPose).DriveKept s := h
  unfold State.recompute
  dsimp only
  split
  · exact hpublished.evaluateLimits.evaluateGrade.serviceEvent _ fun _ => rfl
  · exact hpublished.evaluateLimits.evaluateGrade

theorem takeFault (h : u.DriveKept s) (ch : Nat) (kind : FaultKind) : (u.takeFault ch kind).DriveKept s :=
  ⟨fun hs => (h.1 hs).setVd fun hv => hv.takeFault ch kind, fun hs => (h.2 hs).takeFault ch kind⟩

theorem judgeSupply (h : u.DriveKept s) : u.judgeSupply.DriveKept s :=
  h.setVd (fun hv => hv.judgeSupply _ _ _) (.judgeSupply _ _ _ _)

theorem endTest (h : u.DriveKept s) : State.DriveKept { u with vd := u.vd.endTest } s :=
  ⟨fun hs => (h.1 hs).setVd fun hv => hv.endTest, fun _ => State.TestSound.endTest u⟩

/-! ### The Economy Controller -/

theorem ecoMove (h : u.DriveKept s) (st : EconomyState) (auto shut wait : Timer) :
    (u.ecoMove st auto shut wait).DriveKept s := by
  refine ⟨fun hs => ?_, fun hs => (h.2 hs).ecoMove st auto shut wait⟩
  unfold State.ecoMove
  refine State.DriveSound.workOutTorque (s := State.report _ _) ?_
  split
  · exact h.1 hs
  · exact (h.1 hs).setVd fun hv => hv.endTest

theorem judgeEngine (h : u.DriveKept s) : u.judgeEngine.DriveKept s := by
  unfold State.judgeEngine State.enterWorking
  repeat' split
  any_goals exact h
  all_goals exact h.ecoMove _ _ _ _

theorem judgeActivity (h : u.DriveKept s) : u.judgeActivity.DriveKept s := by
  have hjudged : State.DriveKept { u with ec := { u.ec with active := activityNow u.ret.settings u.ec } } s := h
  unfold State.judgeActivity State.activityBegins State.activityEnds
  dsimp only
  repeat' split
  any_goals exact hjudged
  all_goals exact hjudged.ecoMove _ _ _ _

theorem judgeOil (h : u.DriveKept s) : u.judgeOil.DriveKept s := by
  unfold State.judgeOil
  dsimp only
  split
  · exact h
  · exact workOutTorque (u := State.report { u with ec := _ } _) h

theorem autoIdleWritten (h : u.DriveKept s) (before : Nat) : (u.autoIdleWritten before).DriveKept s := by
  unfold State.autoIdleWritten
  repeat' split
  any_goals exact h
  all_goals exact h.ecoMove _ _ _ _

theorem shutdownWritten (h : u.DriveKept s) (before : Nat) : (u.shutdownWritten before).DriveKept s := by
  unfold State.shutdownWritten
  repeat' split
  all_goals exact h

theorem ecSource (h : u.DriveKept s) (i : Nat) (x : SourceSlot) (accepted : Bool) :
    (u.ecSource i x accepted).DriveKept s := by
  have hcopied : State.DriveKept { u with ec := { u.ec with copies := u.ec.copies.set (i - 3) ⟨x.state, x.lastGood⟩ } } s := h
  unfold State.ecSource State.pumpSample State.fuelState
  dsimp only
  split
  · repeat' split
    all_goals exact hcopied
  · exact hcopied.judgeEngine
  · repeat' split
    all_goals exact hcopied
  · exact hcopied.judgeOil
  · exact hcopied.judgeActivity
  · exact hcopied

theorem selectMode (h : u.DriveKept s) {i : Nat} (hi : i < 4) : (u.selectMode i).DriveKept s := by
  have hselected : State.DriveKept { u with ret := { u.ret with selectedMode := i } } s :=
    h.setFigures rfl fun hr => hr.select hi
  unfold State.selectMode
  dsimp only
  split
  · exact workOutTorque (u := { u with ret := _, ec := _ }) hselected
  · split <;> exact hselected.ecoMove _ _ _ _
  · exact hselected.workOutTorque

/-! ### Samples, slots, gates, quanta -/

theorem tellConsumer (h : u.DriveKept s) (i : Nat) (changed accepted : Bool) :
    (u.tellConsumer i changed accepted).DriveKept s := by
  unfold State.tellConsumer
  split
  · split
    · exact recompute (u := { u with pu := _ }) h
    · exact h
  split
  · exact h.ecSource _ _ _
  · exact h

theorem foldl {α : Type} {op : State → α → State} (l : List α)
    (hop : ∀ (v : State) (a : α), a ∈ l → v.DriveKept s → (op v a).DriveKept s) (h : u.DriveKept s) :
    (l.foldl op u).DriveKept s :=
  List.foldlRecOn (motive := fun v => v.DriveKept s) l op h fun v hv a ha => hop v a ha hv

theorem takeSample (f : CanFrame) (h : u.DriveKept s) (i : Nat) : (State.takeSample f u i).DriveKept s := by
  unfold State.takeSample
  split
  · exact tellConsumer (u := (u.setSlot i _).report _) h _ _ _
  · exact tellConsumer (u := (u.setSlot i _).report _) h _ _ _

theorem frameArrives (h : u.DriveKept s) (f : CanFrame) : (u.frameArrives f).DriveKept s :=
  foldl (u := { u with choice := _ }) _ (fun _ i _ hv => hv.takeSample f i) h

theorem sourceLost (h : u.DriveKept s) (i : Nat) : (u.sourceLost i).DriveKept s :=
  tellConsumer (u := (u.setSlot i _).report _) h _ _ _

theorem writeSource (h : u.DriveKept s) (i : Nat) (x : SourceRecord) : (u.writeSource i x).DriveKept s :=
  tellConsumer (u := ((u.setSource i x).setSlot i _).report _) h _ _ _

theorem closeGate (h : u.DriveKept s) (count : Nat) (r : Bool) : (u.closeGate count r).DriveKept s := by
  have hgate (phi : Nat) (w : Int) :
      ((State.puGate { u with sc := u.sc.closed u.ret.settings } phi r w).ecGate w).DriveKept s :=
    judgeActivity (u := { (State.puGate _ phi r w) with ec := _ }) (recompute (u := { u with sc := _, pu := _ }) h)
  unfold State.closeGate
  dsimp only
  split
  · exact (hgate _ _).serviceEvent _ fun _ => rfl
  · exact hgate _ _

theorem gateExpires (h : u.DriveKept s) : u.gateExpires.DriveKept s := by
  unfold State.gateExpires
  split <;> exact h.closeGate _ _

theorem completeQuantum (h : u.DriveKept s) : u.completeQuantum.DriveKept s := by
  have hmetered (c : LoadClass) (partialMs overMs : Nat) : State.DriveKept
      { u with
        ret := u.ret.metered c
        ec := { u.ec with partialMs := partialMs, overMs := overMs, pumpSum := 0, pumpCount := 0 } } s := h
  unfold State.completeQuantum State.serviceQuantum
  exact (hmetered _ _ _).serviceEvent _ fun _ => rfl

theorem periodEnds (h : u.DriveKept s) (b : Bool) : (u.periodEnds b).DriveKept s := by
  unfold State.periodEnds
  repeat' split
  all_goals exact h

theorem attemptEnds (h : u.DriveKept s) (b : Bool) : (u.attemptEnds b).DriveKept s := by
  unfold State.attemptEnds
  repeat' split
  all_goals exact h

/-! ### The Valve Drive -/

/-- A ramp expiry moves the commanded current within its range (R163), and a fault that it completes switches it off. -/
theorem rampExpires (h : u.DriveKept s) {ch : Nat} (hch : ch < 4) (sensed : List Nat) :
    (u.rampExpires ch sensed).DriveKept s := by
  have hramped : State.DriveKept { u with vd := u.vd.setChan ch (u.rampedChannel ch sensed) } s := by
    refine ⟨fun hs => ?_, fun hs => (h.2 hs).setVd (.setChan _ rfl)⟩
    obtain ⟨⟨-, hcfg⟩, -⟩ := driveSound_iff.mp (h.1 hs)
    refine (h.1 hs).setVd fun hv => hv.setChan ch fun _ => ?_
    exact (hv.chan hch).ramped ((hcfg ch hch).drives_effectiveOf (hv.targetInForce_le hch)) _ _
  cases hdue : (u.rampedChannel ch sensed).faultDue with
  | none =>
    rw [State.rampExpires_spared hdue]
    exact hramped
  | some kind =>
    rw [State.rampExpires_faulted hdue]
    exact hramped.takeFault ch kind

theorem supplyFalls (h : u.DriveKept s) : u.supplyFalls.DriveKept s := by
  refine judgeSupply (u := State.report { u with vd := _ } _) (h.setVd (fun hv => ?_) ?_)
  · exact hv.mapChans rfl rfl fun _ _ hc => hc.switchOff _
  · exact .mapChans rfl rfl fun _ => rfl

theorem supplyRises (h : u.DriveKept s) : u.supplyRises.DriveKept s := by
  refine judgeSupply (u := State.report { u with vd := _ } _) (h.setVd (fun hv => ?_) ⟨fun _ => rfl, rfl⟩)
  exact hv.mapChans (f := id) (List.map_id _).symm rfl fun _ _ hc => hc.normal

theorem clearValveFault (h : u.DriveKept s) (ch : Nat) : (u.clearValveFault ch).1.DriveKept s := by
  unfold State.clearValveFault
  split
  · exact h
  split
  · exact h
  · refine ⟨fun hs => (h.1 hs).setVd fun hv => hv.clear ch, fun hs => ?_⟩
    obtain ⟨hallowed, hclear⟩ := testSound_iff.mp (h.2 hs)
    exact testSound_iff.mpr ⟨hallowed, hclear.clear ch⟩

theorem driveTest (h : u.DriveKept s) (ch c d : Nat) : (u.driveTest ch c d).1.DriveKept s := by
  refine ⟨fun hs => ?_, fun hs => (h.2 hs).driveTest ch c d⟩
  have hu := h.1 hs
  unfold State.driveTest
  repeat' split
  any_goals exact hu
  exact hu.setVd fun hv => hv.startTest ch c _

theorem driveTestStop (h : u.DriveKept s) : u.driveTestStop.1.DriveKept s := by
  unfold State.driveTestStop
  split
  · exact h.endTest
  · exact h

/-! ### Requests -/

theorem openZones (h : u.DriveKept s) : u.openZones.DriveKept s := by
  unfold State.openZones
  split
  · exact h
  · exact evaluateLimits (u := State.report { u with zt := _ } _) h

theorem closeTable (h : u.DriveKept s) (rs : List Report) : (u.closeTable rs).DriveKept s :=
  evaluateLimits (u := State.report { u with zt := _ } rs) h

theorem selectTarget (h : u.DriveKept s) (i : Nat) : (u.selectTarget i).1.DriveKept s := by
  have hselect (selection : Option Nat) : (u.setSelection selection).DriveKept s := evaluateGrade (u := { u with ret := _ }) h
  unfold State.selectTarget
  repeat' split
  any_goals exact h
  all_goals exact hselect _

/-- SERVICE_DONE keeps the derate of its item (08 R141). -/
theorem serviceDone (h : u.DriveKept s) (i : Nat) : (u.serviceDone i).1.DriveKept s := by
  unfold State.serviceDone
  split
  · exact h
  split
  · exact h
  split
  · exact h
  · next it hit =>
    refine h.writeItem i fun hr => hr.derates (some it) ?_ it rfl
    have hget : u.ret.items.getD i none = some it := hit
    rw [List.getD_eq_getElem?_getD] at hget
    cases hentry : u.ret.items[i]? with
    | none => simp [hentry] at hget
    | some e =>
      rw [hentry, Option.getD_some] at hget
      exact hget ▸ List.mem_of_getElem? hentry

theorem ackHead (h : u.DriveKept s) : u.ackHead.1.DriveKept s := by
  unfold State.ackHead
  split <;> exact h

theorem ackNotice (h : u.DriveKept s) (n : Nat) : (u.ackNotice n).1.DriveKept s := by
  unfold State.ackNotice
  repeat' split
  all_goals exact h

/-! ### Requests on tables -/

theorem setZone (h : u.DriveKept s) (i : Nat) (z : Option Zone) : (u.startEdit.setZone i z).evaluateLimits.DriveKept s :=
  evaluateLimits (u := u.startEdit.setZone i z) h

theorem setSector (h : u.DriveKept s) (i : Nat) (x : Sector) : (u.startEdit.setSector i x).evaluateLimits.DriveKept s :=
  evaluateLimits (u := u.startEdit.setSector i x) h

theorem writeSurface (h : u.DriveKept s) (i : Nat) (e : Option Surface) : (u.writeSurface i e).DriveKept s :=
  evaluateGrade (u := { u with ret := _ }) h

theorem putItem (h : u.DriveKept s) (i : Nat) (p : List Byte) : (u.putItem i p).1.DriveKept s := by
  unfold State.putItem
  repeat' split
  any_goals exact h
  next it _ hit _ =>
    refine h.writeItem _ fun _ => ?_
    rw [Item.DerateSound, Item.placed_derate]
    exact itemOf_derateSound hit

theorem retireItem (h : u.DriveKept s) (i : Nat) : (u.retireItem i).1.DriveKept s := by
  unfold State.retireItem
  repeat' split
  any_goals exact h
  refine derateReport ?_ _
  exact h.setFigures rfl fun hr => hr.setItem i fun _ hit => nomatch hit

theorem writeMode (h : u.DriveKept s) (i : Nat) {m : WorkMode} (hm : 40 ≤ m.torque ∧ m.torque ≤ 100) :
    (u.writeMode i m).DriveKept s := by
  have hwritten : State.DriveKept { u with ret := { u.ret with modes := u.ret.modes.set i m } } s :=
    h.setFigures rfl fun hr => hr.setMode i hm
  unfold State.writeMode
  dsimp only
  split
  · exact hwritten.workOutTorque
  · exact hwritten

theorem putMode (h : u.DriveKept s) (i : Nat) (p : List Byte) : (u.putMode i p).1.DriveKept s := by
  unfold State.putMode
  split
  · exact h
  · exact h.writeMode i (workModeOf_torque p)

theorem putChannel (h : u.DriveKept s) (i : Nat) (p : List Byte) : (u.putChannel i p).1.DriveKept s := by
  unfold State.putChannel
  split
  · exact h
  · next hi => exact h.writeChannel (Nat.not_le.mp hi) (channelOf_sound i p)

theorem retireChannel (h : u.DriveKept s) (i : Nat) : (u.retireChannel i).1.DriveKept s := by
  unfold State.retireChannel
  split
  · exact h
  · next hi => exact h.writeChannel (Nat.not_le.mp hi) (defaultConfig_sound (Nat.not_le.mp hi))

theorem writeGeometry (h : u.DriveKept s) (g : Geometry) : (u.writeGeometry g).DriveKept s :=
  recompute (u := State.report { u with ret := _ } _) h

theorem settingChanged (h : u.DriveKept s) (before : Settings) (n : Nat) : (u.settingChanged before n).DriveKept s := by
  unfold State.settingChanged
  split
  case h_1 =>
    rw [State.busRejoined_frame]
    exact h
  case h_2 =>
    rw [State.demandWritten_frame]
    exact h
  case h_3 =>
    rw [State.demandWritten_frame]
    exact h
  case h_4 => exact h
  case h_5 => exact h
  case h_13 => exact h.evaluateGrade
  case h_14 => exact h.evaluateGrade
  case h_15 => exact h.judgeEngine
  case h_16 => exact h.autoIdleWritten _
  case h_17 => exact h.shutdownWritten _
  case h_18 => exact h.judgeActivity
  case h_19 => exact h.workOutTorque
  case h_20 => exact h.judgeOil
  case h_21 => exact h.workOutTorque
  case h_22 => exact h.judgeSupply
  case h_23 => exact h.judgeSupply
  case h_24 => exact h
  all_goals exact h.evaluateLimits

theorem applySetting (h : u.DriveKept s) (v : Int) (n : Nat) :
    (u.applySetting n (u.ret.settings.written v n)).DriveKept s := by
  unfold State.applySetting
  split
  · exact h
  · refine settingChanged (u := u.setSettings _) ?_ _ _
    exact h.setFigures rfl fun hr => hr.written v n

theorem writeSetting (h : u.DriveKept s) (n : Nat) (v : Int) : (u.writeSetting n v).1.DriveKept s := by
  unfold State.writeSetting
  split
  · exact h
  · exact h.applySetting v n

/-- A PUT_ENTRY leaves the state to one write of its table, or is refused and writes nothing. -/
theorem putEntry (h : u.DriveKept s) (table i : Nat) (p : List Byte) : (u.putEntry table i p).1.DriveKept s := by
  have hitem := h.putItem i p
  have hmode := h.putMode i p
  have hchannel := h.putChannel i p
  unfold State.putEntry State.putZone State.putSector State.putSurface State.putSource State.putGeometry State.putSetting
  dsimp only
  repeat' split
  any_goals exact h
  · exact h.setZone _ _
  · exact h.setSector _ _
  · exact h.writeSurface _ _
  · exact hitem
  · exact h.writeSource _ _
  · exact hmode
  · exact hchannel
  · exact h.writeGeometry _
  · exact h.writeSetting _ _

/-- A RETIRE_ENTRY, likewise. -/
theorem retireEntry (h : u.DriveKept s) (table i : Nat) : (u.retireEntry table i).1.DriveKept s := by
  have hitem := h.retireItem i
  have hchannel := h.retireChannel i
  unfold State.retireEntry State.retireZone State.retireSector State.retireSurface State.retireSourceEntry
    State.retireGeometry State.retireSetting
  dsimp only
  repeat' split
  any_goals exact h
  · exact h.setZone _ _
  · exact h.setSector _ _
  · exact h.writeSurface _ _
  · exact hitem
  · exact h.writeSource _ _
  · exact hchannel
  · exact h.writeGeometry _
  · exact h.writeSetting _ _

/-! ### CLEAR_RETAINED -/

theorem settingDefaults (h : u.DriveKept s) (l : List Nat) : (l.foldl State.settingDefault u).DriveKept s :=
  foldl l (fun _ n _ hv => hv.applySetting _ n) h

theorem clearBus (h : u.DriveKept s) : u.clearBus.DriveKept s := by
  have hslots := foldl (op := State.retireSource) (List.range 8) (fun _ i _ hv => hv.writeSource i _) h
  unfold State.clearBus
  exact hslots.settingDefaults _

theorem clearSlew (h : u.DriveKept s) : u.clearSlew.DriveKept s := by
  unfold State.clearSlew
  exact h.settingDefaults _

theorem clearZones (h : u.DriveKept s) : u.clearZones.DriveKept s := by
  unfold State.clearZones
  refine evaluateLimits ?_
  exact h

theorem clearLimiter (h : u.DriveKept s) : u.clearLimiter.DriveKept s := by
  unfold State.clearLimiter
  refine evaluateLimits ?_
  exact h

theorem clearGrade (h : u.DriveKept s) : u.clearGrade.DriveKept s := by
  unfold State.clearGrade
  refine evaluateGrade ?_
  exact h

/-- The defaults of the work modes and of the two torque settings lie in 40..100 % (07 R106, R109). -/
theorem clearEconomy (h : u.DriveKept s) : u.clearEconomy.DriveKept s := by
  unfold State.clearEconomy
  refine workOutTorque (judgeOil (judgeActivity (judgeEngine ?_)))
  refine setFigures (u := { u with ec := _ }) h rfl fun hr => ?_
  have hdefault : defaultRetained.FiguresSound := by decide
  obtain ⟨hlength, hmodes, hselected, hidle, hidle', hoil, -⟩ := hdefault
  exact ⟨hlength, hmodes, hselected, hidle, hidle', hoil, hr.derates⟩

theorem clearService (h : u.DriveKept s) : u.clearService.DriveKept s := by
  unfold State.clearService
  refine workOutTorque ?_
  refine h.setFigures rfl fun hr => hr.setItems fun e he it hit => ?_
  rw [List.eq_of_mem_replicate he] at hit
  cases hit

theorem clearValves (h : u.DriveKept s) : u.clearValves.DriveKept s := by
  unfold State.clearValves
  have hchannels := foldl (op := State.channelDefault) (List.range 4)
    (fun _ ch hch hv => hv.writeChannel (List.mem_range.mp hch) (defaultConfig_sound (List.mem_range.mp hch))) h
  refine judgeSupply ?_
  exact hchannels

theorem clearNoticeSettings (h : u.DriveKept s) : u.clearNoticeSettings.DriveKept s := h

theorem clearRetained (h : u.DriveKept s) : u.clearRetained.DriveKept s := by
  have hgrade := (h.clearBus.clearSlew.writeGeometry defaultGeometry).clearZones.clearLimiter.clearGrade
  have hvalves := hgrade.clearEconomy.clearService.clearValves
  unfold State.clearRetained
  exact hvalves.clearNoticeSettings

theorem clearRetainedRequest (h : u.DriveKept s) : u.clearRetainedRequest.1.DriveKept s := by
  unfold State.clearRetainedRequest
  split
  · exact h
  split
  · exact h
  · dsimp only
    exact h.clearRetained

/-! ### Resets -/

/-- The contents from which every start makes its targets: configurations and figures in their ranges. -/
theorem startVd_within {r : Retained} (hconfigs : r.ConfigsSound) (hfigures : r.FiguresSound) (supply : Nat) :
    (startVd r supply).Within r := by
  obtain ⟨-, hcfg⟩ := hconfigs
  have htorque : 40 ≤ (startEc r).torque := (hfigures.torqueLimit_range .stopped false).1
  have hfresh {cfg : ChannelConfig} {owner : Nat} (howner : owner ≤ cfg.imax) : (startChannel owner).Within cfg true :=
    ⟨howner, .inl rfl, fun _ => rfl⟩
  refine Vd.Within.judgeSupply ⟨rfl, fun ch hch => ?_, fun x hx => ?_⟩ _ _ _
  · interval_cases ch
    · exact hfresh (slewTarget_le (hcfg 0 hch) _)
    · exact hfresh (slewTarget_le (hcfg 1 hch) _)
    · exact hfresh (Nat.zero_le _)
    · exact hfresh (torqueTarget_le _ htorque)
  · cases hx

/-- A start ends every test (R172) and gives every channel a target within its Imax at commanded current 0 (R174). -/
theorem start (hret : s.DriveSound → u.ret.ConfigsSound ∧ u.ret.FiguresSound) (extra : List Report) :
    (u.start extra).DriveKept s := by
  refine ⟨fun hs => ?_, fun _ => ?_⟩
  · obtain ⟨hconfigs, hfigures⟩ := hret hs
    have hevaluated := hfigures.evaluated
    exact driveSound_iff.mpr ⟨hconfigs, startVd_within (r := u.ret.evaluated) hconfigs hevaluated _, .start _, hevaluated,
      hevaluated.torqueLimit_range .stopped false⟩
  · have htest : (startVd u.ret.evaluated u.pins.supply).test = none := by rw [startVd, Vd.judgeSupply_eq]
    exact fun x hx => nomatch htest.symm.trans hx

theorem retSound (s : State) : s.DriveSound → s.ret.ConfigsSound ∧ s.ret.FiguresSound := fun hs => by
  obtain ⟨hconfigs, -, -, hfigures, -⟩ := driveSound_iff.mp hs
  exact ⟨hconfigs, hfigures⟩

theorem powerUp (s : State) : s.powerUp.DriveKept s := by
  refine start (u := s.judgeRetained) (fun hs => ?_) _
  unfold State.judgeRetained
  dsimp only
  split
  · refine ⟨⟨rfl, fun ch hch => ?_⟩, by decide⟩
    exact defaultConfig_sound hch
  · exact retSound s hs

/-! ### Every command -/

theorem commit {t : State} {f : State → State} (ht : s.commit f = .next t)
    (hf : ∀ u : State, u.DriveKept s → (f u).DriveKept s) : t.DriveKept s :=
  State.commit_keeps (P := fun u => u.DriveKept s) (fun _ hu => hu) hf (refl s) ht

theorem commitPins {t : State} {p : Pins} {f : State → State} (ht : s.commitPins p f = .next t)
    (hf : ∀ u : State, u.DriveKept s → (f u).DriveKept s) : t.DriveKept s :=
  State.commitPins_keeps (p := p) (P := fun u => u.DriveKept s) (fun _ hu => hu) hf (refl s) ht

/-- A timer's expiry keeps both where its effect does. -/
theorem commitExpire {t : State} {pick : State → Timer} {f : State → State}
    (ht : s.commit (fun s => s.expire (pick s) f) = .next t) (hf : ∀ u : State, u.DriveKept s → (f u).DriveKept s) :
    t.DriveKept s :=
  commit ht fun _ hu => State.expire_keeps (P := fun u => u.DriveKept s) (fun _ dt hv => hv.elapse dt) hf hu

theorem exec {t : State} (c : Instr) (ht : exec c s = .next t) : t.DriveKept s := by
  cases c
  all_goals simp only [Machine.exec] at ht
  -- the machine bus, the Slew Counter, the Zone Table and the Grade Guide
  case frameArrival f =>
    refine commit ht fun u hu => ?_
    split
    · exact hu.frameArrives f
    · exact hu
  case sourceTimeoutExpiry slot =>
    exact commitExpire (pick := fun s => (s.slot slot.val).timer) ht fun _ hu => hu.sourceLost _
  case periodTimerExpiry b => exact commitExpire (pick := fun s => s.mbp.period) ht fun _ hu => hu.periodEnds b
  case transmissionAttemptEnd b => exact commit ht fun _ hu => hu.attemptEnds b
  case recoveryTimerExpiry => exact commitExpire (pick := fun s => s.mbp.recovery) ht fun _ hu => hu
  case slewStep a b =>
    refine commitPins ht fun u hu => ?_
    split <;> exact hu
  case indexMark =>
    refine commitPins ht fun u hu => ?_
    split <;> exact hu
  case slewZFall => exact commitPins ht fun _ hu => hu
  case gateTimerExpiry => exact commitExpire (pick := fun s => s.sc.gate) ht fun _ hu => hu.gateExpires
  case editTimerExpiry => exact commitExpire (pick := fun s => s.zt.edit) ht fun _ hu => hu.closeTable _
  case holdTimerExpiry =>
    refine commitExpire (pick := fun s => s.gg.hold) ht fun u hu => ?_
    split
    · exact hu.setFloor fun _ => .unavailable _
    · exact hu
  -- the Economy Controller
  case autoIdleTimerExpiry =>
    refine commitExpire (pick := fun s => s.ec.autoIdle) ht fun u hu => ?_
    split
    · exact hu.ecoMove _ _ _ _
    · exact hu
  case shutdownTimerLeft =>
    refine commit ht fun u hu => ?_
    split
    · exact hu
    split
    · exact hu
    · exact (hu.elapse _).report _
  case shutdownTimerExpiry =>
    refine commitExpire (pick := fun s => s.ec.shutdown) ht fun u hu => ?_
    split
    · exact hu.ecoMove _ _ _ _
    · exact hu
  case shutdownWaitExpiry =>
    refine commitExpire (pick := fun s => s.ec.wait) ht fun u hu => ?_
    split
    · exact hu.ecoMove _ _ _ _
    · exact hu
  case quantumCompletion =>
    refine commit ht fun u hu => ?_
    split
    · exact (hu.elapse _).completeQuantum
    · exact hu
  case setWorkMode i =>
    refine commit ht fun u hu => ?_
    split
    · next hi => exact hu.selectMode hi
    · exact hu
  -- the Notice Unit and the Valve Drive
  case flashTimerExpiry lamp => exact commitExpire (pick := fun s => (s.nu.lamp lamp).flash) ht fun _ hu => hu
  case stretchTimerExpiry lamp => exact commitExpire (pick := fun s => (s.nu.lamp lamp).stretch) ht fun _ hu => hu
  case ackHead => exact commit ht fun _ hu => hu.ackHead
  case ackNotice n => exact commit ht fun _ hu => hu.ackNotice n.toNat
  case rampIntervalExpiry ch sensed =>
    exact commitExpire (pick := fun s => (s.vd.chan ch.val).ramp) ht fun _ hu => hu.rampExpires ch.isLt sensed
  case overCurrent ch sensed =>
    refine commit ht fun u hu => ?_
    split
    · exact hu.takeFault _ _
    · exact hu
  case supplyVoltageChange v => exact commitPins ht fun _ hu => hu.judgeSupply
  case downQualificationExpiry => exact commitExpire (pick := fun s => s.vd.downQual) ht fun _ hu => hu.supplyFalls
  case upQualificationExpiry => exact commitExpire (pick := fun s => s.vd.upQual) ht fun _ hu => hu.supplyRises
  case durationTimerExpiry => exact commitExpire (pick := fun s => s.vd.duration) ht fun _ hu => hu.endTest
  case clearValveFault ch => exact commit ht fun _ hu => hu.clearValveFault ch.toNat
  case driveTest ch c d => exact commit ht fun _ hu => hu.driveTest ch.toNat c.toNat d.toNat
  case driveTestStop => exact commit ht fun _ hu => hu.driveTestStop
  case serviceKeyAsserted => exact commitPins ht fun _ hu => hu
  case serviceKeyRelease => exact commitPins ht fun _ hu => hu.endTest
  -- the Controller Link and the requests on tables
  case transactionStart =>
    refine commitPins ht fun u hu => ?_
    split <;> exact hu
  case transactionEnd sdi => exact commitPins ht fun _ hu => hu
  case responseReady =>
    refine commit ht fun u hu => ?_
    rw [State.prepare_frame]
    exact hu
  case putEntry table i p => exact commit ht fun _ hu => hu.putEntry table.toNat i.toNat p
  case retireEntry table i => exact commit ht fun _ hu => hu.retireEntry table.toNat i.toNat
  case openZones => exact commit ht fun _ hu => hu.openZones
  case closeZones =>
    refine commit ht fun u hu => ?_
    split
    · exact hu.closeTable _
    · exact hu
  case selectTarget i => exact commit ht fun _ hu => hu.selectTarget i.toNat
  case serviceDone i => exact commit ht fun _ hu => hu.serviceDone i.toNat
  -- resets, power and CLEAR_RETAINED
  case clearRetained => exact commit ht fun _ hu => hu.clearRetainedRequest.answer _ _ _
  case restart =>
    cases ht
    split
    · exact start (retSound s) _
    · exact refl s
  case resetNAsserted =>
    cases ht
    split <;> exact refl s
  case reset =>
    cases ht
    split
    · exact refl s
    · exact start (u := s.setResetLow false) (retSound s) _
  case powerOn =>
    cases ht
    split <;> exact powerUp s
  case powerLoss =>
    cases ht
    exact refl s
  case backupDropped =>
    cases ht
    split <;> exact refl s
  all_goals exact commit ht fun _ hu => hu

/-- A step keeps both: a command does, and a tick only runs timers down. -/
theorem step {t : State} (ht : step s = .next t) : t.DriveKept s := by
  unfold Machine.step at ht
  split at ht
  · cases ht
    unfold State.idle
    split
    · exact (refl s).elapse 1
    · exact refl s
  · next c rest _ => exact exec (s := { s with pending := rest }) c ht

end State.DriveKept

end Sys2Proof.Machine

open Sys2Proof.Machine in
/-- Settles O13: a ramp expiry and a new configuration leave a commanded current in its range (`Channel.Within.ramped`,
`Vd.Within.applyConfig`), a fault and a LOW supply switch it off (`Vd.Within.takeFault`, `Channel.Within.switchOff`), and every
target is worked out within Imax (`slewTarget_le`, `floorTarget_le`, `torqueTarget_le`) from figures in their ranges
(`Retained.FiguresSound.torqueLimit_range`). -/
theorem currentInRangeKept : Obligations.CurrentInRangeKept := fun _ _ h ht => (State.DriveKept.step ht).1 h

open Sys2Proof.Machine in
/-- Settles O19: a test starts only where it is allowed (`State.TestSound.driveTest`), a move of the economy state ends one that
it does not allow (`State.TestSound.ecoMove`), and a fault ends that of its channel (`Vd.TestClear.takeFault`). -/
theorem driveTestGuarded : Obligations.DriveTestGuarded := fun _ _ h ht => (State.DriveKept.step ht).2 h
end

-- ==== Proofs of sitting 10: faults and the valve supply ====

section
/-! PROOFS. OVER_CURRENT, CLEAR_VALVE_FAULT and FAULT_N (10 R166, R167, R170); the supply voltage and its two qualifications
(10 R168). -/

namespace Sys2Proof.Machine

/-! ### Reports of the Valve Drive -/

/-- Where no report is on its way, the one that is made is taken as it is. -/
theorem State.deliver_report {s : State} (h : s.inbox = []) (r : Report) :
    (s.report [r]).deliver = { s with nu := s.nu.take s.ret.settings.stretchMs r } := by
  rw [State.deliver_one (r := r) (by rw [State.report_inbox, h]; rfl)]
  cases s
  cases h
  rfl

/-! ### A fault (R166, R167) -/

section
variable {s : State} {ch : Nat}

/-- A fault switches its channel off and ends the test of the channel; nothing else of the Valve Drive moves. -/
theorem Vd.takeFault_eq (v : Vd) (ch : Nat) (kind : FaultKind) :
    v.takeFault ch kind = { v with
      chans := v.chans.set ch { (v.chan ch).switchOff with fault := some kind }
      test := if v.test.any (fun x => decide (x.channel = ch)) then none else v.test
      duration := if v.test.any (fun x => decide (x.channel = ch)) then none else v.duration } := by
  unfold Vd.takeFault Vd.endTestOf Vd.setChan
  cases htest : v.test with
  | none => rfl
  | some x => by_cases hx : x.channel = ch <;> simp [hx, Vd.endTest]

theorem State.takeFault_deliver (h : s.inbox = []) (ch : Nat) (kind : FaultKind) :
    (s.takeFault ch kind).deliver = { s with
      vd := s.vd.takeFault ch kind, nu := s.nu.take s.ret.settings.stretchMs (.cause (2 + ch) true) } :=
  State.deliver_report (s := { s with vd := s.vd.takeFault ch kind }) h (.cause (2 + ch) true)

theorem overCurrentFound_iff {cfg : ChannelConfig} {c : Channel} {sensed : Nat} :
    overCurrentFound cfg c sensed = true ↔ c.fault = none ∧ cfg.imax + 300 < sensed := by
  simp [overCurrentFound]

theorem exec_overCurrent_found (h : s.Ready) {ch : Fin 4} {sensed : Nat} (hfault : (s.vd.chan ch.val).fault = none)
    (hsensed : (s.ret.config ch.val).imax + 300 < sensed) :
    exec (.overCurrent ch sensed) s = .next (s.takeFault ch.val .overCurrent).deliver := by
  simp only [exec, execOverCurrent, State.commit_running h.1, overCurrentFound_iff.mpr ⟨hfault, hsensed⟩, if_true]

theorem exec_overCurrent_none (h : s.Ready) {ch : Fin 4} {sensed : Nat}
    (hnone : (s.vd.chan ch.val).fault.isSome ∨ sensed ≤ (s.ret.config ch.val).imax + 300) :
    exec (.overCurrent ch sensed) s = .next s := by
  have hnot : ¬overCurrentFound (s.ret.config ch.val) (s.vd.chan ch.val) sensed = true := by
    rw [overCurrentFound_iff]
    rintro ⟨hfault, hsensed⟩
    rcases hnone with hsome | hle
    · simp [hfault] at hsome
    · omega
  simp only [exec, execOverCurrent, State.commit_running h.1, if_neg hnot, State.deliver_none h.2]

/-- FAULT_N, condition by condition (R170). -/
theorem State.faultN_iff {s : State} :
    s.faultN = true ↔ s.phase = .running ∧ s.vd.supplyLow = false ∧
      ∀ ch, ch < 4 → (s.vd.chan ch).fault = none ∨ (s.ret.config ch).mask = true := by
  simp [State.faultN, and_assoc]

/-! ### CLEAR_VALVE_FAULT (R167) -/

theorem State.clearValveFault_badIndex (hch : 4 ≤ ch) : s.clearValveFault ch = (s, .badIndex) := if_pos hch

theorem State.clearValveFault_state (hch : ch < 4) (hfault : (s.vd.chan ch).fault = none) :
    s.clearValveFault ch = (s, .state) := by
  rw [State.clearValveFault, if_neg (Nat.not_le.mpr hch), if_pos (by simp [hfault])]

theorem State.clearValveFault_clears (hch : ch < 4) (hfault : (s.vd.chan ch).fault.isSome) :
    s.clearValveFault ch =
      (State.report { s with vd := s.vd.setChan ch (s.vd.chan ch).cleared } [.condition (2 + ch) false], .ok) := by
  have hnone : ¬(s.vd.chan ch).fault.isNone = true := by
    rw [Option.isNone_iff_eq_none]
    exact Option.isSome_iff_ne_none.mp hfault
  rw [State.clearValveFault, if_neg (Nat.not_le.mpr hch), if_neg hnone]
  rfl

theorem exec_clearValveFault (h : s.Ready) {b : Byte} {t : State} {r : ResultCode} (hclear : s.clearValveFault b.toNat = (t, r)) :
    exec (.clearValveFault b) s = .next (t.answer 20 r []).deliver := by
  simp only [exec, execClearValveFault, State.commit_running h.1, hclear]

/-! ### The supply (R168) -/

theorem exec_supplyVoltageChange (h : s.Ready) (v : Nat) :
    exec (.supplyVoltageChange v) s = .next (State.judgeSupply { s with pins := { s.pins with supply := v } }) :=
  (State.commitPins_running h.1 _ _).trans (congrArg Host.Outcome.next (State.deliver_none h.2))

/-- The reports of an entry into LOW or NORMAL are taken once the qualifications have been judged. -/
theorem State.judgeSupply_deliver (h : s.inbox = []) (r : Report) :
    (s.report [r]).judgeSupply.deliver = { s.judgeSupply with nu := s.nu.take s.ret.settings.stretchMs r } :=
  State.deliver_report (s := s.judgeSupply) h r

theorem exec_downQualificationExpiry (h : s.Ready) {left : Nat} (hleft : s.vd.downQual = some left) :
    exec .downQualificationExpiry s = .next (s.elapse left).supplyFalls.deliver := by
  simp only [exec, execDownQualificationExpiry, State.commit_running h.1, hleft, State.expire_running]

theorem exec_upQualificationExpiry (h : s.Ready) {left : Nat} (hleft : s.vd.upQual = some left) :
    exec .upQualificationExpiry s = .next (s.elapse left).supplyRises.deliver := by
  simp only [exec, execUpQualificationExpiry, State.commit_running h.1, hleft, State.expire_running]

/-- With the voltage below the up threshold no qualification runs after the entry into LOW. -/
theorem State.supplyFalls_deliver (h : s.inbox = []) (hup : s.pins.supply < s.ret.settings.supplyUp) :
    s.supplyFalls.deliver = { s with
      vd := { s.vd with
        supplyLow := true, downQual := none, upQual := none, chans := s.vd.chans.map Channel.switchOff }
      nu := s.nu.take s.ret.settings.stretchMs (.condition 1 true) } := by
  refine (State.judgeSupply_deliver (s := { s with
    vd := { s.vd with supplyLow := true, downQual := none, chans := s.vd.chans.map Channel.switchOff } }) h
    (.condition 1 true)).trans ?_
  simp only [State.judgeSupply, Vd.judgeSupply_eq, qualified, if_true, if_neg (Nat.not_le.mpr hup)]

/-- With the voltage at or above the down threshold no qualification runs after the entry into NORMAL. -/
theorem State.supplyRises_deliver (h : s.inbox = []) (hdown : s.ret.settings.supplyDown ≤ s.pins.supply) :
    s.supplyRises.deliver = { s with
      vd := { s.vd with supplyLow := false, upQual := none, downQual := none }
      nu := s.nu.take s.ret.settings.stretchMs (.condition 1 false) } := by
  refine (State.judgeSupply_deliver (s := { s with
    vd := { s.vd with supplyLow := false, upQual := none } }) h (.condition 1 false)).trans ?_
  simp only [State.judgeSupply, Vd.judgeSupply_eq, qualified, Bool.false_eq_true, if_false, if_neg (Nat.not_lt.mpr hdown)]

end

end Sys2Proof.Machine

open Sys2Proof Sys2Proof.Machine in
/-- Settles O55: an over-current is a fault taken at once (`exec_overCurrent_found`, `Vd.takeFault_eq`), a clear makes its channel
OFF (`State.clearValveFault_clears`), and FAULT_N is their sum (`State.faultN_iff`). -/
theorem overCurrentTaken : Obligations.OverCurrentTaken := by
  refine ⟨?_, fun s => State.faultN_iff⟩
  intro s ch sensed b h hlength c off ended t
  have htaken : (s.takeFault ch.val .overCurrent).deliver = t := by
    rw [State.takeFault_deliver h.2, Vd.takeFault_eq]
    rfl
  refine ⟨fun hfault hsensed => ⟨?_, fun hmask => ?_⟩, exec_overCurrent_none h, fun hb => ?_, fun hb hfault => ?_,
    fun hb hfault => ?_⟩
  · rw [exec_overCurrent_found h hfault hsensed, htaken]
  · have hchan : t.vd.chan ch.val = off := Vd.setChan_chan_same s.vd (by omega) off
    rw [← Bool.not_eq_true, State.faultN_iff]
    rintro ⟨-, -, hall⟩
    rcases hall ch.val ch.isLt with hnone | hmasked
    · rw [hchan] at hnone
      cases hnone
    · exact Bool.false_ne_true (hmask.symm.trans hmasked)
  · rw [exec_clearValveFault h (State.clearValveFault_badIndex hb), State.deliver_answer_none h.2]
  · rw [exec_clearValveFault h (State.clearValveFault_state hb hfault), State.deliver_answer_none h.2]
  · rw [exec_clearValveFault h (State.clearValveFault_clears hb hfault)]
    exact congrArg Host.Outcome.next (State.deliver_report (s := State.answer { s with vd := _ } 20 .ok []) h.2 _)

open Sys2Proof Sys2Proof.Machine in
/-- Settles O56: a new voltage has the qualifications judged (`Vd.judgeSupply_eq`), and one that runs out turns the supply
(`State.supplyFalls_deliver`, `State.supplyRises_deliver`). -/
theorem supplyQualified : Obligations.SupplyQualified := by
  intro s v left h x u started
  refine ⟨fun hnormal => ?_, fun hlow => ?_, fun _ hleft hup _ => ?_, fun _ hleft hdown _ => ?_⟩
  · rw [exec_supplyVoltageChange h, State.judgeSupply, Vd.judgeSupply_eq]
    simp only [hnormal, Bool.false_eq_true, if_false]
    rfl
  · rw [exec_supplyVoltageChange h, State.judgeSupply, Vd.judgeSupply_eq]
    simp only [hlow, if_true]
    rfl
  · exact (exec_downQualificationExpiry h hleft).trans
      (congrArg Host.Outcome.next (State.supplyFalls_deliver (s := s.elapse left) h.2 hup))
  · exact (exec_upQualificationExpiry h hleft).trans
      (congrArg Host.Outcome.next (State.supplyRises_deliver (s := s.elapse left) h.2 hdown))
end

-- ==== Proofs of sitting 10: the ramp and the output ====

section
/-! PROOFS. RAMP_INTERVAL_EXPIRY (10 R162 to R164, R166): the channel that an expiry leaves, the fault that it completes, and the
output of a channel (R164). -/

namespace Sys2Proof.Machine

/-! ### The channel after a ramp expiry -/

/-- The effective target in the terms of R162: 0 for no target, and never below the start current otherwise. -/
theorem effectiveTarget_eq (r : Retained) (v : Vd) (ch : Nat) :
    let target := ((v.test.filter (fun x => decide (x.channel = ch))).map DriveTest.current).getD (v.chan ch).owner
    effectiveTarget r v ch = if target = 0 then 0 else max (r.config ch).start target := by
  rw [effectiveTarget, effectiveOf_eq, Vd.targetInForce, Vd.testTarget_eq]

/-- The table of R163 for an effective target: a current that leaves 0 takes the start current, which no effective target
undercuts. -/
theorem rampNext_effective {cfg : ChannelConfig} {c e : Nat} (he : e = 0 ∨ cfg.start ≤ e) :
    rampNext cfg c e =
      if c = e then c
      else if c = 0 then (if cfg.start = 0 then min cfg.rampUp e else cfg.start)
      else if c < e then min (c + cfg.rampUp) e
      else if 0 < e then max (c - cfg.rampDown) e
      else if c < cfg.start + cfg.rampDown then 0 else c - cfg.rampDown := by
  unfold rampNext
  split
  · rfl
  split
  · have hstart : min cfg.start e = cfg.start := min_eq_left (by omega)
    rw [hstart]
  · rfl

theorem openLoadFound_iff {cfg : ChannelConfig} {commanded measured : Nat} :
    openLoadFound cfg commanded measured = true ↔ 0 < commanded ∧ cfg.start ≤ commanded ∧ 4 * measured < commanded := by
  simp [openLoadFound, and_assoc]

theorem notReachedFound_iff {commanded effective measured : Nat} :
    notReachedFound commanded effective measured = true ↔
      0 < commanded ∧ commanded = effective ∧ commanded < 5 * ((commanded - measured) + (measured - commanded)) ∧
        50 < (commanded - measured) + (measured - commanded) := by
  rw [Nat.add_comm (commanded - measured)]
  simp [notReachedFound, and_assoc]

/-- A qualification counted on at an expiry (R166): over where nothing is found or checked, begun anew where the current moved. -/
theorem qualify_eq {faulted found : Bool} {P : Prop} [Decidable P] (hP : found = true ↔ P) (current commanded n : Nat) :
    (if faulted = true then 0 else qualify found (current != commanded) n) =
      if faulted = true ∨ ¬P then 0 else if current = commanded then n + 1 else 1 := by
  cases faulted
  · by_cases hfound : P
    · by_cases h : current = commanded <;> simp [qualify, hP.mpr hfound, hfound, h]
    · simp [qualify, mt hP.mp hfound, hfound]
  · rfl

/-- The channel after a ramp expiry, field by field, for the commanded current that R163 gives it. -/
theorem Channel.ramped_eq {cfg : ChannelConfig} {low : Bool} {effective current : Nat} {c : Channel}
    (hcurrent : commandedNext cfg low c effective = current) (now : Nat) (sensed : List Nat) :
    let measured := meanOf (c.window sensed)
    let gap := (current - measured) + (measured - current)
    c.ramped cfg low effective now sensed = { c with
      commanded := current, measured := measured, sensed := c.window sensed, ramp := some 10
      openQual :=
        if c.fault.isSome ∨ ¬(0 < current ∧ cfg.start ≤ current ∧ 4 * measured < current) then 0
        else if current = c.commanded then c.openQual + 1 else 1
      reachQual :=
        if c.fault.isSome ∨ ¬(0 < current ∧ current = effective ∧ current < 5 * gap ∧ 50 < gap) then 0
        else if current = c.commanded then c.reachQual + 1 else 1
      ditherSince := if current = 0 then none else if c.commanded = 0 then some now else c.ditherSince } := by
  subst hcurrent
  simp only [Channel.ramped, qualify_eq openLoadFound_iff, qualify_eq notReachedFound_iff]
  rfl

theorem Channel.faultDue_eq (c : Channel) :
    c.faultDue =
      if c.fault.isSome then none
      else if 11 ≤ c.openQual then some .openLoad
      else if 31 ≤ c.reachQual then some .notReached
      else none := rfl

/-- The fault that an expiry completes: none on a FAULTED channel or before either time is over, and OPEN_LOAD before
NOT_REACHED (R166). -/
theorem Channel.faultDue_none {c : Channel} (h : c.fault.isSome ∨ (c.openQual < 11 ∧ c.reachQual < 31)) :
    c.faultDue = none := by
  rw [Channel.faultDue_eq]
  split
  · rfl
  next hclear =>
    obtain ⟨hopen, hreach⟩ := h.resolve_left hclear
    rw [if_neg (Nat.not_le.mpr hopen), if_neg (Nat.not_le.mpr hreach)]

theorem Channel.faultDue_openLoad {c : Channel} (hfault : c.fault = none) (hopen : 11 ≤ c.openQual) :
    c.faultDue = some .openLoad := by
  rw [Channel.faultDue_eq, if_neg (by simp [hfault]), if_pos hopen]

theorem Channel.faultDue_notReached {c : Channel} (hfault : c.fault = none) (hopen : c.openQual < 11)
    (hreach : 31 ≤ c.reachQual) : c.faultDue = some .notReached := by
  rw [Channel.faultDue_eq, if_neg (by simp [hfault]), if_neg (Nat.not_le.mpr hopen), if_pos hreach]

/-! ### The expiry -/

section
variable {s : State} {ch : Nat} {sensed : List Nat}

theorem Vd.takeFault_chan_same (v : Vd) (h : ch < v.chans.length) (kind : FaultKind) :
    (v.takeFault ch kind).chan ch = { (v.chan ch).switchOff with fault := some kind } := by
  rw [Vd.takeFault_eq]
  exact v.setChan_chan_same h _

theorem Vd.takeFault_chan_other (v : Vd) {k : Nat} (h : ch ≠ k) (kind : FaultKind) :
    (v.takeFault ch kind).chan k = v.chan k := by
  rw [Vd.takeFault_eq]
  exact v.setChan_chan_other h _

/-- A ramp expiry touches no channel but its own (R163). -/
theorem State.rampExpires_chan_other {k : Nat} (h : ch ≠ k) : (s.rampExpires ch sensed).vd.chan k = s.vd.chan k := by
  have hramped := s.vd.setChan_chan_other h (s.rampedChannel ch sensed)
  cases hdue : (s.rampedChannel ch sensed).faultDue with
  | none => rw [State.rampExpires_spared hdue, hramped]
  | some kind =>
    rw [State.rampExpires_faulted hdue]
    exact (Vd.takeFault_chan_other _ h kind).trans hramped

theorem exec_rampIntervalExpiry (h : s.Ready) {ch : Fin 4} {left : Nat} (hleft : (s.vd.chan ch.val).ramp = some left) :
    exec (.rampIntervalExpiry ch sensed) s = .next ((s.elapse left).rampExpires ch.val sensed).deliver := by
  simp only [exec, execRampIntervalExpiry, State.commit_running h.1, hleft, State.expire_running]

/-- An expiry that completes no fault leaves the channel as the ramp set it. -/
theorem State.rampExpires_deliver_spared (hin : s.inbox = []) (hch : ch < s.vd.chans.length)
    (hdue : (s.rampedChannel ch sensed).faultDue = none) :
    let t := (s.rampExpires ch sensed).deliver
    t.vd.chan ch = s.rampedChannel ch sensed ∧ t = { s with vd := { s.vd with chans := t.vd.chans } } := by
  intro t
  have ht : t = { s with vd := s.vd.setChan ch (s.rampedChannel ch sensed) } := by
    rw [← State.rampExpires_spared hdue]
    exact State.deliver_none (by rw [State.rampExpires_spared hdue]; exact hin)
  rw [ht]
  exact ⟨s.vd.setChan_chan_same hch _, rfl⟩

/-- An expiry that completes a qualification switches the channel off with its fault, ends its test and reports the cause. -/
theorem State.rampExpires_deliver_faulted (hin : s.inbox = []) (hch : ch < s.vd.chans.length) {kind : FaultKind}
    (hdue : (s.rampedChannel ch sensed).faultDue = some kind) :
    let t := (s.rampExpires ch sensed).deliver
    let ended := s.vd.test.any (fun x => decide (x.channel = ch))
    t.vd.chan ch = { (s.rampedChannel ch sensed).switchOff with fault := some kind } ∧
      t = { s with
        vd := { s.vd with
          chans := t.vd.chans, test := if ended then none else s.vd.test, duration := if ended then none else s.vd.duration }
        nu := s.nu.take s.ret.settings.stretchMs (.cause (2 + ch) true) } := by
  intro t ended
  have ht : t = { s with
      vd := (s.vd.setChan ch (s.rampedChannel ch sensed)).takeFault ch kind
      nu := s.nu.take s.ret.settings.stretchMs (.cause (2 + ch) true) } :=
    (congrArg State.deliver (State.rampExpires_faulted hdue)).trans
      (State.takeFault_deliver (s := { s with vd := s.vd.setChan ch (s.rampedChannel ch sensed) }) hin ch kind)
  rw [ht]
  refine ⟨?_, ?_⟩
  · have hramped := s.vd.setChan_chan_same hch (s.rampedChannel ch sensed)
    have hsame := (s.vd.setChan ch (s.rampedChannel ch sensed)).takeFault_chan_same
      (hch.trans_eq List.length_set.symm) kind
    exact hsame.trans (by rw [hramped])
  · rw [Vd.takeFault_eq]
    rfl

/-- The time that passes before an expiry moves nothing that the ramp reads but the time itself. -/
theorem State.rampedChannel_elapse (hch : ch < s.vd.chans.length) (left : Nat) :
    (s.elapse left).rampedChannel ch sensed =
      (s.vd.chan ch).ramped (s.ret.config ch) s.vd.supplyLow (effectiveTarget s.ret s.vd ch) (s.now + left) sensed := by
  have hchan : (s.elapse left).vd.chan ch = { s.vd.chan ch with ramp := (s.vd.chan ch).ramp.elapse left } :=
    Vd.chan_mapChans (w := (s.elapse left).vd) (f := fun c => { c with ramp := c.ramp.elapse left }) rfl hch
  have htarget : effectiveTarget s.ret (s.elapse left).vd ch = effectiveTarget s.ret s.vd ch := by
    simp only [effectiveTarget_eq, hchan]
    rfl
  rw [State.rampedChannel, hchan, State.elapse_ret, htarget]
  rfl

end

/-! ### The output (R164) -/

/-- An output with its triangle, p being the dither's phase in thousandths of a period. -/
theorem outputAt_some {cfg : ChannelConfig} {c : Channel} {now since p : Nat} (h : c.ditherSince = some since)
    (hp : (now - since) * cfg.ditherFreq % 1000 = p) :
    (outputAt cfg c now : Int) = max 0 (1000 * (c.commanded : Int) + cfg.ditherAmp *
      (if p < 250 then 4 * (p : Int) else if p < 750 then 2000 - 4 * (p : Int) else 4 * (p : Int) - 4000)) := by
  have hlow : (p : Int) < 250 ↔ p < 250 := by omega
  have hmid : (p : Int) < 750 ↔ p < 750 := by omega
  simp only [outputAt, h, hp, Int.ofNat_toNat, hlow, hmid]
  rw [max_comm, mul_comm (c.commanded : Int)]

theorem State.valveOutput_running {s : State} (h : s.phase = .running) (ch : Nat) :
    s.valveOutput ch = outputAt (s.ret.config ch) (s.vd.chan ch) s.now := by
  simp only [State.valveOutput, h]

end Sys2Proof.Machine

open Sys2Proof Sys2Proof.Machine in
/-- Settles O54: the channel that the ramp leaves (`Channel.ramped_eq`, `rampNext_effective`), the fault that it completes
(`Channel.faultDue_openLoad`, `State.rampExpires_deliver_faulted`) or not (`State.rampExpires_deliver_spared`), and the triangle
of the output (`outputAt_some`). -/
theorem rampMovesCurrent : Obligations.RampMovesCurrent := by
  refine ⟨?_, fun s k => ⟨fun hrun hnone => ?_, fun since hrun hsince => ?_⟩⟩
  · intro s ch sensed left h hlength hsensed hleft u c g window test target e ramped current count
    have hch : ch.val < s.vd.chans.length := by omega
    have hch' : ch.val < u.vd.chans.length := hch.trans_eq (List.length_map _).symm
    have heffective : effectiveTarget s.ret s.vd ch.val = e := effectiveTarget_eq s.ret s.vd ch.val
    have hstart : e = 0 ∨ g.start ≤ e := by
      simp only [e]
      split
      · exact .inl rfl
      · exact .inr (le_max_left _ _)
    have hcurrent : commandedNext g s.vd.supplyLow c (effectiveTarget s.ret s.vd ch.val) = current := by
      rw [heffective]
      simp only [commandedNext, Bool.or_eq_true, rampNext_effective hstart]
      rfl
    have hramped : u.rampedChannel ch.val sensed = _ :=
      (State.rampedChannel_elapse hch left).trans (Channel.ramped_eq hcurrent (s.now + left) sensed)
    rw [heffective] at hramped
    have hended : s.vd.test.any (fun x => decide (x.channel = ch.val)) = test.isSome := by
      simp only [test, Option.isSome_map]
      cases s.vd.test with
      | none => rfl
      | some x => by_cases hx : x.channel = ch.val <;> simp [Option.filter, hx]
    have hwindow : window ≠ [] := by simp [window, hsensed]
    refine ⟨_, meanOf window, exec_rampIntervalExpiry h hleft, meanOf_near hwindow, ?_,
      fun k hk => State.rampExpires_chan_other hk.symm⟩
    intro gap openCount reachCount now taken
    have hfaulted {kind : FaultKind} (hdue : (u.rampedChannel ch.val sensed).faultDue = some kind) : taken kind := by
      obtain ⟨hchan, ht⟩ := State.rampExpires_deliver_faulted (s := u) h.2 hch' hdue
      refine ⟨hchan.trans ?_, ht.trans ?_⟩
      · rw [hramped]
        rfl
      · rw [← hended]
        rfl
    refine ⟨fun hspared => ?_, fun hfault hopen => ?_, fun hfault hopen hreach => ?_⟩
    · have hdue : (u.rampedChannel ch.val sensed).faultDue = none := by
        rw [hramped]
        exact Channel.faultDue_none hspared
      obtain ⟨hchan, ht⟩ := State.rampExpires_deliver_spared (s := u) h.2 hch' hdue
      exact ⟨hchan.trans hramped, ht⟩
    · refine hfaulted ?_
      rw [hramped]
      exact Channel.faultDue_openLoad hfault hopen
    · refine hfaulted ?_
      rw [hramped]
      exact Channel.faultDue_notReached hfault hopen hreach
  · rw [State.valveOutput_running hrun, outputAt, hnone]
  · intro p driven
    have hout := outputAt_some (p := p) hsince rfl
    rw [← State.valveOutput_running hrun] at hout
    refine ⟨fun hp => ?_, fun hp hp' => ?_, fun hp => ?_⟩
    · rwa [if_pos hp] at hout
    · rwa [if_neg (Nat.not_lt.mpr hp), if_pos hp'] at hout
    · rwa [if_neg (by omega), if_neg (Nat.not_lt.mpr hp)] at hout
end

-- ==== Proofs of sitting 11: fields and request frames ====

section
/-! PROOFS. Fields on the wire (11 R182), the command that a request frame spells and the refusals of the link (11 R176, R179,
R181). -/

namespace Sys2Proof.Machine

/-! ### Fields (R182) -/

/-- The first byte holds what stands above the other n bytes. -/
theorem toBe_succ_mod (n v : Nat) : toBe (n + 1) v = BitVec.ofNat 8 (v / 256 ^ n) :: toBe n (v % 256 ^ n) := by
  have hrest : toBe n v = toBe n (v % 256 ^ n) := by
    rw [← toBe_add_mul n (v / 256 ^ n) (v % 256 ^ n), Nat.div_add_mod']
  rw [toBe, hrest]

/-! ### Frames (R176) -/

theorem frameWellFormed_iff {bytes : List Byte} :
    frameWellFormed bytes = true ↔
      4 ≤ bytes.length ∧ payloadLength bytes ≤ 60 ∧ 4 + payloadLength bytes ≤ bytes.length ∧ bytes.length ≤ 64 ∧
        ∀ k, 4 + payloadLength bytes ≤ k → k < bytes.length → bytes.getD k 0 = 0 := by
  have hpadding : (bytes.drop (4 + payloadLength bytes)).all (· == 0) = true ↔
      ∀ k, 4 + payloadLength bytes ≤ k → k < bytes.length → bytes.getD k 0 = 0 := by
    simp only [List.all_eq_true, beq_iff_eq, List.mem_drop_iff_getElem]
    constructor
    · intro hall k hk hlt
      rw [List.getD_eq_getElem _ _ hlt]
      exact hall _ ⟨k - (4 + payloadLength bytes), by omega, getElem_congr_idx (Nat.add_sub_of_le hk)⟩
    · rintro hall _ ⟨j, hj, rfl⟩
      rw [← List.getD_eq_getElem _ 0]
      exact hall _ (by omega) (by omega)
  simp only [frameWellFormed, Bool.and_eq_true, decide_eq_true_eq, and_assoc, hpadding]

/-- A request frame: its head, its payload and zero bytes behind it (Table 11-2). -/
def requestFrame (code table index : Byte) (payload : List Byte) (pad : Nat) : List Byte :=
  [code, table, index, BitVec.ofNat 8 payload.length] ++ payload ++ List.replicate pad 0

section
variable {c t i : Byte} {p : List Byte} {k : Nat} (h : p.length + k ≤ 60)
include h

theorem payloadLength_requestFrame : payloadLength (requestFrame c t i p k) = p.length := by
  change (BitVec.ofNat 8 p.length).toNat = p.length
  rw [BitVec.toNat_ofNat, Nat.mod_eq_of_lt (by omega)]

theorem payload_requestFrame :
    ((requestFrame c t i p k).drop 4).take (payloadLength (requestFrame c t i p k)) = p := by
  rw [payloadLength_requestFrame h]
  exact List.take_left

theorem requestFrame_wellFormed : frameWellFormed (requestFrame c t i p k) = true := by
  have hlength : (requestFrame c t i p k).length = 4 + p.length + k := by simp [requestFrame]; omega
  rw [frameWellFormed_iff, payloadLength_requestFrame h, hlength]
  refine ⟨by omega, by omega, by omega, by omega, fun j hj _ => ?_⟩
  rw [requestFrame, List.getD_append_right _ _ _ _ (by simp; omega), List.getD_eq_getElem?_getD]
  exact List.getElem?_getD_replicate_default_eq _ _ _

/-- A well-formed frame is judged by its code, its table and the length of its payload. -/
theorem linkAnswer_requestFrame :
    linkAnswer (requestFrame c t i p k) =
      (linkCheck c.toNat t.toNat p.length).map (fun result => .done c.toNat result []) := by
  have hanswer : linkAnswer (requestFrame c t i p k) =
      (linkCheck c.toNat t.toNat (payloadLength (requestFrame c t i p k))).map (fun result => .done c.toNat result []) :=
    if_neg (by simp [requestFrame_wellFormed h])
  rw [hanswer, payloadLength_requestFrame h]

/-- The padding changes nothing. -/
theorem commandOf_padding : commandOf (requestFrame c t i p k) = commandOf (requestFrame c t i p 0) := by
  have h0 : p.length + 0 ≤ 60 := by omega
  simp only [commandOf, linkAnswer_requestFrame h, linkAnswer_requestFrame h0, payload_requestFrame h, payload_requestFrame h0]
  rfl

end

/-! ### The checks of the link, in their order (R179) -/

section
variable {code table n : Nat}

theorem linkCheck_code (h : 24 < code) : linkCheck code table n = some .badRequest := if_pos (.inr h)

theorem tableRefused_iff : tableRefused table = true ↔ table < 1 ∨ 9 < table := by simp [tableRefused]

theorem carriesTable_iff : carriesTable code = true ↔ 1 ≤ code ∧ code ≤ 4 := by simp [carriesTable]

theorem linkCheck_table (hcode : 1 ≤ code ∧ code ≤ 4) (htable : table < 1 ∨ 9 < table) :
    linkCheck code table n = some .badTable := by
  rw [linkCheck, if_neg (by omega), if_pos (by rw [carriesTable_iff.mpr hcode, tableRefused_iff.mpr htable]; rfl)]

/-- SETTINGS has no list. -/
theorem linkCheck_listSettings : linkCheck 4 9 n = some .badTable := rfl

/-- Past the checks of code and table, the length of the payload decides. -/
theorem linkCheck_length (hcode : 1 ≤ code ∧ code ≤ 24) (htable : code ≤ 4 → 1 ≤ table ∧ table ≤ 9)
    (hlist : ¬(code = 4 ∧ table = 9)) :
    linkCheck code table n = if n ≠ requestLength code table then some .badRequest else none := by
  have htaken : ¬(carriesTable code && tableRefused table) = true := by
    rw [Bool.and_eq_true, carriesTable_iff, tableRefused_iff]
    omega
  rw [linkCheck, if_neg (by omega), if_neg htaken, if_neg hlist]

/-- The payload lengths of Table 11-4, as the statements list them. -/
theorem mem_putLengths_iff :
    (table, n) ∈ [(1, 13), (2, 2), (3, 14), (4, 16), (5, 16), (6, 3), (7, 15), (8, 20), (9, 4)] ↔
      1 ≤ table ∧ table ≤ 9 ∧ n = putLength table := by
  constructor
  · intro hmem
    simp only [List.mem_cons, Prod.mk.injEq, List.not_mem_nil, or_false] at hmem
    rcases hmem with ⟨rfl, rfl⟩ | ⟨rfl, rfl⟩ | ⟨rfl, rfl⟩ | ⟨rfl, rfl⟩ | ⟨rfl, rfl⟩ | ⟨rfl, rfl⟩ | ⟨rfl, rfl⟩ | ⟨rfl, rfl⟩ |
      ⟨rfl, rfl⟩ <;> decide
  · rintro ⟨hleast, hmost, rfl⟩
    interval_cases table <;> decide

theorem requestLength_put : requestLength 2 table = putLength table := rfl

theorem requestLength_bare (hput : code ≠ 2) (htest : code ≠ 21) : requestLength code table = 0 := by
  rw [requestLength, if_neg hput, if_neg htest]

end

/-! ### Frames that the link refuses (R176, R179) -/

/-- The frame spells no command, and the link itself answers it. -/
def FrameRefused (bytes : List Byte) (r : ResultCode) : Prop :=
  commandOf bytes = none ∧ linkAnswer bytes = some (.done (bytes.getD 0 0).toNat r [])

theorem FrameRefused.of_answer {bytes : List Byte} {r : ResultCode}
    (h : linkAnswer bytes = some (.done (bytes.getD 0 0).toNat r [])) : FrameRefused bytes r :=
  ⟨if_pos (by rw [h]; rfl), h⟩

theorem FrameRefused.badFrame {bytes : List Byte} (h : ¬frameWellFormed bytes = true) : FrameRefused bytes .badFrame :=
  .of_answer (if_pos (by simpa using h))

section
variable {c t i : Byte} {p : List Byte} {k : Nat}

theorem FrameRefused.of_check {r : ResultCode} (h : p.length + k ≤ 60)
    (hcheck : linkCheck c.toNat t.toNat p.length = some r) : FrameRefused (requestFrame c t i p k) r :=
  .of_answer (by rw [linkAnswer_requestFrame h, hcheck]; rfl)

/-- A payload of another length than its request asks for. -/
theorem FrameRefused.of_length (h : p.length + k ≤ 60) (hcode : 1 ≤ c.toNat ∧ c.toNat ≤ 24)
    (htable : c.toNat ≤ 4 → 1 ≤ t.toNat ∧ t.toNat ≤ 9) (hlist : ¬(c.toNat = 4 ∧ t.toNat = 9))
    (hlength : p.length ≠ requestLength c.toNat t.toNat) : FrameRefused (requestFrame c t i p k) .badRequest :=
  .of_check h ((linkCheck_length hcode htable hlist).trans (if_pos hlength))

/-- A payload where the request takes none. -/
theorem FrameRefused.of_payload (h : p.length + k ≤ 60) (hcode : 1 ≤ c.toNat ∧ c.toNat ≤ 24) (hput : c.toNat ≠ 2)
    (htest : c.toNat ≠ 21) (htable : c.toNat ≤ 4 → 1 ≤ t.toNat ∧ t.toNat ≤ 9) (hlist : ¬(c.toNat = 4 ∧ t.toNat = 9))
    (hp : p ≠ []) : FrameRefused (requestFrame c t i p k) .badRequest := by
  refine .of_length h hcode htable hlist fun hlength => hp (List.length_eq_zero_iff.mp ?_)
  rw [hlength, requestLength_bare hput htest]

end

/-! ### Frames that spell a command (R176, R181) -/

section
variable {t i : Byte} {p : List Byte} {k : Nat}

/-- A frame that passes the checks is answered by no check of the link. -/
theorem linkAnswer_passes {c : Byte} (h : p.length + k ≤ 60) (hcode : 1 ≤ c.toNat ∧ c.toNat ≤ 24)
    (htable : c.toNat ≤ 4 → 1 ≤ t.toNat ∧ t.toNat ≤ 9) (hlist : ¬(c.toNat = 4 ∧ t.toNat = 9))
    (hlength : p.length = requestLength c.toNat t.toNat) : linkAnswer (requestFrame c t i p k) = none := by
  rw [linkAnswer_requestFrame h, linkCheck_length hcode htable hlist, if_neg (not_not.mpr hlength)]
  rfl

/-- The requests on a table that carry no payload; SETTINGS has no list. -/
theorem commandOf_tableRequests (ht : 1 ≤ t.toNat ∧ t.toNat ≤ 9) (hk : k ≤ 60) :
    commandOf (requestFrame 1 t i [] k) = some (.readEntry t i) ∧
      commandOf (requestFrame 3 t i [] k) = some (.retireEntry t i) ∧
      (t ≠ 9 → commandOf (requestFrame 4 t i [] k) = some (.listTable t)) := by
  have hpass {c : Byte} (hcode : 1 ≤ c.toNat ∧ c.toNat ≤ 24) (hlist : ¬(c.toNat = 4 ∧ t.toNat = 9))
      (hbare : 0 = requestLength c.toNat t.toNat) : linkAnswer (requestFrame c t i [] k) = none :=
    linkAnswer_passes (by simpa using hk) hcode (fun _ => ht) hlist hbare
  refine ⟨?_, ?_, fun hlist => ?_⟩
  · rw [commandOf, hpass (by decide) (by simp) rfl]
    rfl
  · rw [commandOf, hpass (by decide) (by simp) rfl]
    rfl
  · rw [commandOf, hpass (by decide) (fun heq => hlist (BitVec.eq_of_toNat_eq heq.2)) rfl]
    rfl

theorem commandOf_putEntry (ht : 1 ≤ t.toNat ∧ t.toNat ≤ 9) (hp : p.length = putLength t.toNat) (h : p.length + k ≤ 60) :
    commandOf (requestFrame 2 t i p k) = some (.putEntry t i p) := by
  have hpass : linkAnswer (requestFrame 2 t i p k) = none :=
    linkAnswer_passes h (by decide) (fun _ => ht) (by simp) hp
  rw [commandOf, hpass, payload_requestFrame h]
  rfl

/-- Two bytes of a payload, the more significant first. -/
theorem word16_eq {o : Nat} {a b : Byte} (h : field p o 2 = [a, b]) : word16 p o = a ++ b := by
  apply BitVec.eq_of_toNat_eq
  have hword : fieldNat p o 2 = a.toNat * 256 + b.toNat := by rw [fieldNat, h]; simp [beNat]
  rw [word16, hword, BitVec.toNat_ofNat, BitVec.toNat_append, Nat.mod_eq_of_lt (by omega),
    ← Nat.shiftLeft_add_eq_or_of_lt b.isLt, Nat.shiftLeft_eq]

theorem commandOf_driveTest {a b c d : Byte} (hk : k ≤ 56) :
    commandOf (requestFrame 21 t i [a, b, c, d] k) = some (.driveTest i (a ++ b) (c ++ d)) := by
  have h : [a, b, c, d].length + k ≤ 60 := by simp; omega
  have hpass : linkAnswer (requestFrame 21 t i [a, b, c, d] k) = none :=
    linkAnswer_passes h (by decide) (by simp) (by simp) rfl
  rw [commandOf, hpass, payload_requestFrame h, ← word16_eq (p := [a, b, c, d]) (o := 0) rfl,
    ← word16_eq (p := [a, b, c, d]) (o := 2) rfl]
  rfl

end

end Sys2Proof.Machine

open Sys2Proof Sys2Proof.Machine in
/-- Settles O24: a value that fits is read back (`beNat_toBe`, `beInt_toBeInt`), and its first byte stands above the rest
(`toBe_succ_mod`). -/
theorem fieldsReadBack : Obligations.FieldsReadBack := by
  refine ⟨fun n v h => ⟨toBe_length n v, beNat_toBe h⟩, fun n v hlo hhi => ⟨toBeInt_length _ v, ?_⟩,
    fun n v _ => toBe_succ_mod n v, fun _ _ => rfl⟩
  have hpow : (256 : Int) ^ (n + 1) = 256 * 256 ^ n := pow_succ' 256 n
  exact beInt_toBeInt (by omega) (by omega)

open Sys2Proof Sys2Proof.Machine in
/-- Settles O25: a frame that passes the checks spells its command, whatever its padding (`commandOf_padding`); every refusal is one
of `linkAnswer`, for the frame (`frameWellFormed_iff`), the code, the table or the length of the payload. -/
theorem requestFramesSpellCommands : Obligations.RequestFramesSpellCommands := by
  unfold Obligations.RequestFramesSpellCommands
  intro frame refused lengths
  refine ⟨fun t i k hleast hmost hk => commandOf_tableRequests ⟨hleast, hmost⟩ hk,
    fun t i p k hmem h => ?_, fun t i k hk => ?_, fun t i a b c d k hk => commandOf_driveTest hk,
    fun bytes => ?_, fun c t i p k h => ?_⟩
  · obtain ⟨hleast, hmost, hp⟩ := mem_putLengths_iff.mp hmem
    exact commandOf_putEntry ⟨hleast, hmost⟩ hp h
  · have hbare (c : Byte) {x : Option Instr} (hx : commandOf (requestFrame c t i [] 0) = x) : commandOf (frame c t i [] k) = x :=
      (commandOf_padding (by simpa using hk)).trans hx
    exact ⟨hbare 5 rfl, hbare 6 rfl, hbare 7 rfl, hbare 8 rfl, hbare 9 rfl, hbare 10 rfl, hbare 11 rfl, hbare 12 rfl,
      hbare 13 rfl, hbare 14 rfl, hbare 15 rfl, hbare 16 rfl, hbare 17 rfl, hbare 18 rfl, hbare 19 rfl, hbare 20 rfl,
      hbare 22 rfl, hbare 23 rfl, hbare 24 rfl⟩
  · intro n _ hbad
    refine FrameRefused.badFrame fun hgood => ?_
    obtain ⟨hfour, hsixty, hfits, hmost, hpadding⟩ := frameWellFormed_iff.mp hgood
    rcases hbad with hshort | hlong | hcut | hover | ⟨k, hk, hlt, hne⟩
    · exact absurd hfour (Nat.not_le.mpr hshort)
    · exact absurd hsixty (Nat.not_le.mpr hlong)
    · exact absurd hfits (Nat.not_le.mpr hcut)
    · exact absurd hmost (Nat.not_le.mpr hover)
    · exact hne (hpadding k hk hlt)
  · have hcodeNe {n : Nat} (hn : n < 256) {b : Byte} (hb : b ≠ BitVec.ofNat 8 n) : b.toNat ≠ n := fun heq =>
      hb (BitVec.eq_of_toNat_eq (by rw [heq, BitVec.toNat_ofNat, Nat.mod_eq_of_lt hn]))
    refine ⟨fun hcode => FrameRefused.of_check h (linkCheck_code hcode), fun hleast hmost htable => ?_, ?_,
      fun hleast hmost => ⟨?_, fun hc hp => ?_⟩, fun hleast hmost hne hp => ?_, ?_⟩
    · refine FrameRefused.of_check h (linkCheck_table ⟨hleast, hmost⟩ (htable.imp_left fun hzero => ?_))
      rw [hzero]
      decide
    · rintro rfl rfl
      exact FrameRefused.of_check h linkCheck_listSettings
    · rintro rfl hnot
      exact FrameRefused.of_length h (by decide) (fun _ => ⟨hleast, hmost⟩) (by simp) fun hlen =>
        hnot (mem_putLengths_iff.mpr ⟨hleast, hmost, hlen⟩)
    · have hcode : c.toNat = 1 ∨ c.toNat = 3 ∨ (c.toNat = 4 ∧ t.toNat ≠ 9) :=
        hc.imp (congrArg BitVec.toNat) (.imp (congrArg BitVec.toNat) (.imp (congrArg BitVec.toNat) (hcodeNe (by decide))))
      exact FrameRefused.of_payload h (by omega) (by omega) (by omega) (fun _ => ⟨hleast, hmost⟩) (by omega) hp
    · have htest : c.toNat ≠ 21 := hcodeNe (by decide) hne
      exact FrameRefused.of_payload h ⟨by omega, hmost⟩ (by omega) htest (by omega) (by omega) hp
    · rintro rfl hp
      exact FrameRefused.of_length h (by decide) (by simp) (by simp) hp
end

-- ==== Proofs of sitting 11: the requests on service items ====

section
/-! PROOFS. Service items on the wire (11 R182, Table 11-4), and PUT_ENTRY and RETIRE_ENTRY on SERVICE_ITEMS and SERVICE_DONE
(08 R134, R136 to R142). -/

namespace Sys2Proof.Machine

/-! ### Items on the wire -/

theorem serviceBasisOf_eq_some_iff {n : Nat} {b : ServiceBasis} : serviceBasisOf n = some b ↔ n = b.code := by
  unfold serviceBasisOf ServiceBasis.code
  split <;> cases b <;> simp_all

/-- The item that the fields of a payload spell, given its basis. -/
def itemFields (p : List Byte) (basis : ServiceBasis) : Item :=
  { state := .counting, basis, interval := fieldNat p 1 4, lead := fieldNat p 5 4, grace := fieldNat p 9 4
    stamp := none, cycles := none, timesDone := 0, derate := fieldOpt p 13 1, tag := fieldNat p 14 2 }

/-- What a payload carries of an item: all but its state, stamp, cycles and times done (R137). -/
def Item.figures (it : Item) : Item := { it with state := .counting, stamp := none, cycles := none, timesDone := 0 }

/-- The checks of R137, as the Service Schedule makes them. -/
theorem itemChecks_iff (it : Item) :
    (1 ≤ it.interval ∧ it.interval ≤ 4000000000 ∧ it.lead ≤ it.interval ∧ it.grace ≤ 4000000000 ∧
      40 ≤ it.derate.getD 40 ∧ it.derate.getD 40 ≤ 100 ∧ it.tag < absentMark 2) ↔ it.Sound := by
  have hmark : absentMark 2 = 65535 := rfl
  have hderate : (∀ d ∈ it.derate, 40 ≤ d ∧ d ≤ 100) ↔ 40 ≤ it.derate.getD 40 ∧ it.derate.getD 40 ≤ 100 := by
    cases it.derate <;> simp
  rw [Item.Sound, hderate, hmark, and_assoc]

theorem itemOf_eq_some_iff {p : List Byte} {it : Item} :
    itemOf p = some it ↔ fieldNat p 0 1 = it.basis.code ∧ itemFields p it.basis = it ∧ it.Sound := by
  rw [← serviceBasisOf_eq_some_iff]
  unfold itemOf
  split
  · next hnone => simp [hnone]
  · next basis hbasis =>
    rw [hbasis, Option.some.injEq]
    change (if _ then some (itemFields p basis) else none) = some it ↔ _
    constructor
    · intro h
      obtain ⟨hchecks, hfields⟩ := Option.ite_none_right_eq_some.mp h
      obtain rfl : itemFields p basis = it := Option.some.inj hfields
      exact ⟨rfl, rfl, (itemChecks_iff _).mp hchecks⟩
    · rintro ⟨rfl, hfields, hsound⟩
      rw [← hfields] at hsound
      exact (if_pos ((itemChecks_iff _).mpr hsound)).trans (congrArg some hfields)

theorem Item.payload_length (it : Item) : it.payload.length = 16 := by
  simp only [Item.payload, optBe, List.length_append, toBe_length]

/-- The fields of an item's payload stand at the offsets of Table 11-4. -/
theorem field_itemPayload (it : Item) :
    field it.payload 0 1 = toBe 1 it.basis.code ∧ field it.payload 1 4 = toBe 4 it.interval ∧
      field it.payload 5 4 = toBe 4 it.lead ∧ field it.payload 9 4 = toBe 4 it.grace ∧
      field it.payload 13 1 = optBe 1 it.derate ∧ field it.payload 14 2 = toBe 2 it.tag := by
  simp only [Item.payload, field, optBe, toBe, List.cons_append, List.nil_append, List.drop_zero, List.drop_succ_cons,
    List.take_succ_cons, List.take_zero, and_self]

theorem fieldOpt_derate {it : Item} (h : it.Sound) : fieldOpt it.payload 13 1 = it.derate := by
  obtain ⟨-, -, -, -, hderate, -⟩ := h
  obtain ⟨-, -, -, -, hfield, -⟩ := field_itemPayload it
  have hmark : absentMark 1 = 255 := rfl
  rw [fieldOpt, fieldNat, hfield, optBe]
  cases hd : it.derate with
  | none => rw [Option.getD_none, beNat_toBe (by decide), if_pos rfl]
  | some d =>
    obtain ⟨-, hmost⟩ := hderate d hd
    rw [Option.getD_some, beNat_toBe (by omega), if_neg (by omega)]

theorem itemOf_payload {it : Item} (h : it.Sound) : itemOf it.payload = some it.figures := by
  obtain ⟨-, hinterval, hlead, hgrace, -, htag⟩ := id h
  obtain ⟨hfbasis, hfinterval, hflead, hfgrace, -, hftag⟩ := field_itemPayload it
  have hbasis : fieldNat it.payload 0 1 = it.basis.code := by
    rw [fieldNat, hfbasis, beNat_toBe (by cases it.basis <;> decide)]
  refine itemOf_eq_some_iff.mpr ⟨hbasis, ?_, h⟩
  rw [itemFields, fieldOpt_derate h, fieldNat, fieldNat, fieldNat, fieldNat, hfinterval, hflead, hfgrace, hftag,
    beNat_toBe (by omega), beNat_toBe (by omega), beNat_toBe (by omega), beNat_toBe (by omega)]
  rfl

/-- A payload of sixteen bytes that passes the checks is that of its item. -/
theorem payload_of_itemOf {p : List Byte} (hp : p.length = 16) {it : Item} (h : itemOf p = some it) :
    it.Sound ∧ p = it.payload := by
  obtain ⟨hbasis, hfields, hsound⟩ := itemOf_eq_some_iff.mp h
  refine ⟨hsound, ?_⟩
  rw [Item.payload, ← hbasis, ← hfields]
  simp (disch := omega) only [itemFields, toBe_fieldNat, optBe_fieldOpt]
  calc p = p.take (14 + 2) := (List.take_of_length_le (by omega)).symm
    _ = p.take (0 + 1) ++ field p 1 4 ++ field p 5 4 ++ field p 9 4 ++ field p 13 1 ++ field p 14 2 := by
      rw [take_field p 14 2, take_field p 13 1, take_field p 9 4, take_field p 5 4, take_field p 1 4]
    _ = _ := by rw [take_field p 0 1, List.take_zero, List.nil_append]

/-- A payload that no item passing the checks has is refused. -/
theorem itemOf_none {p : List Byte} (hp : p.length = 16) (h : ∀ it : Item, it.Sound → p ≠ it.payload) : itemOf p = none := by
  refine Option.eq_none_iff_forall_ne_some.mpr fun it hit => ?_
  obtain ⟨hsound, hpayload⟩ := payload_of_itemOf hp hit
  exact h it hsound hpayload

/-! ### Items that start afresh (R138, R140, R141) -/

section
variable (r : Retained)

/-- The meter that a basis reads, absent on a cycle basis (R129). -/
def Retained.meterRead (b : ServiceBasis) : Option Nat :=
  if b = .engineHours then some r.engineMeter else if b = .weightedHours then some r.weightedMeter else none

/-- An item without progress: DUE at once where its lead fills its interval, and COUNTING otherwise. -/
def Item.afresh (it : Item) : Item :=
  { it with
    stamp := r.meterRead it.basis
    cycles := if (r.meterRead it.basis).isSome then none else some 0
    state := if it.lead = it.interval then .due else .counting }

theorem itemStateOf_zero {interval lead grace : Nat} (hinterval : 1 ≤ interval) (hlead : lead ≤ interval) :
    itemStateOf interval lead grace 0 = if lead = interval then .due else .counting := by
  split
  · exact itemStateOf_due hlead (by omega) hinterval
  · exact itemStateOf_counting (by omega)

theorem Item.progress_restarted (it : Item) : (it.restarted r).progress r = 0 := by
  cases hhours : it.basis.hours <;> simp [Item.progress, Item.restarted, hhours]

theorem Item.restarted_eq (it : Item) :
    it.restarted r =
      { it with
        stamp := r.meterRead it.basis
        cycles := if (r.meterRead it.basis).isSome then none else some 0 } := by
  unfold Item.restarted Retained.meterRead
  cases it.basis <;> rfl

/-- An item that starts afresh stands in the state of progress 0. -/
theorem Item.restarted_evaluated {it : Item} (hinterval : 1 ≤ it.interval) (hlead : it.lead ≤ it.interval) :
    (it.restarted r).evaluated r = it.afresh r := by
  have hstate : itemStateOf it.interval it.lead it.grace ((it.restarted r).progress r) =
      if it.lead = it.interval then .due else .counting := by
    rw [Item.progress_restarted, itemStateOf_zero hinterval hlead]
  calc (it.restarted r).evaluated r
      = { it.restarted r with
          state := itemStateOf it.interval it.lead it.grace ((it.restarted r).progress r) } := rfl
    _ = it.afresh r := by
      rw [hstate, Item.restarted_eq]
      rfl

/-! ### What an accepted PUT leaves (R138 to R140) -/

theorem Item.placed_new {it : Item} (h : it.Sound) :
    it.figures.placed r none = Item.afresh r { it with timesDone := 0 } := by
  obtain ⟨hinterval, -, hlead, -⟩ := h
  exact Item.restarted_evaluated r (it := it.figures) hinterval hlead

theorem Item.placed_rebased {it o : Item} (h : it.Sound) (hbasis : o.basis ≠ it.basis) :
    it.figures.placed r (some o) = Item.afresh r { it with timesDone := o.timesDone } := by
  obtain ⟨hinterval, -, hlead, -⟩ := h
  exact (if_neg hbasis).trans
    (Item.restarted_evaluated r (it := { it.figures with timesDone := o.timesDone }) hinterval hlead)

/-- An amended item keeps its progress. -/
theorem Item.placed_amended {it o : Item} (hbasis : o.basis = it.basis) :
    it.figures.placed r (some o) =
      { it with
        stamp := o.stamp, cycles := o.cycles, timesDone := o.timesDone
        state := itemStateOf it.interval it.lead it.grace (o.progress r) } := by
  have hprogress : Item.progress r { it with stamp := o.stamp, cycles := o.cycles } = o.progress r := by
    simp only [Item.progress, ← hbasis]
  rw [← hprogress]
  exact if_pos hbasis

end

/-! ### An entry written, and its reports taken (R134, R135) -/

/-- Entry k of the table is as given, the request is answered, its reports are taken, and T may have been worked out. -/
def State.EntryWritten (t s : State) (k : Nat) (e : Option Item) (reports : List Report) (code : Nat) (payload : List Byte) :
    Prop :=
  t = { s with
    ret := { s.ret with items := s.ret.items.set k e }
    ec := { s.ec with torque := t.ec.torque }
    nu := t.nu, vd := t.vd, choice := t.choice
    link := { s.link with answer := some (.done code .ok payload) } } ∧
  t.nu.notices = noticesAfter reports s.nu.notices

section
variable {s : State}

theorem State.EntryWritten.deliver (h : s.inbox = []) (k : Nat) (e : Option Item) (reports : List Report) (due : Bool)
    (code : Nat) (payload : List Byte) :
    State.EntryWritten
      ((((({ s with ret := { s.ret with items := s.ret.items.set k e } } : State).report reports).derateReport due).answer
        code .ok payload).deliver) s k e reports code payload := by
  rw [State.derateReport_frame]
  refine ⟨State.eq_of_inbox rfl h.symm, ?_⟩
  rw [State.deliver_notices]
  change noticesAfter (s.inbox ++ reports) s.nu.notices = _
  rw [h, List.nil_append]

theorem State.EntryWritten.writeItem (h : s.inbox = []) (k : Nat) (it : Item) (code : Nat) (payload : List Byte) :
    State.EntryWritten ((s.writeItem k it).answer code .ok payload).deliver s k (some it)
      (itemConditions k ((s.ret.item k).map Item.state) (some it.state)) code payload := by
  rw [← itemReports_eq]
  exact .deliver h k (some it) _ _ code payload

/-! ### The requests without the key (R136) -/

theorem State.putItem_locked (hkey : s.pins.keyAsserted = false) (i : Nat) (p : List Byte) :
    s.putItem i p = (s, .locked, []) := if_pos (by rw [hkey]; rfl)

theorem State.retireItem_locked (hkey : s.pins.keyAsserted = false) (i : Nat) : s.retireItem i = (s, .locked, []) :=
  if_pos (by rw [hkey]; rfl)

theorem State.serviceDone_locked (hkey : s.pins.keyAsserted = false) (i : Nat) : s.serviceDone i = (s, .locked) :=
  if_pos (by rw [hkey]; rfl)

/-! ### The requests under the key -/

section
variable (hkey : s.pins.keyAsserted = true)
include hkey

theorem State.putItem_badIndex {i : Nat} (p : List Byte) (hi : 24 ≤ i ∧ i ≠ 255) : s.putItem i p = (s, .badIndex, []) := by
  rw [State.putItem, if_neg (by simp [hkey])]
  exact if_pos hi

theorem State.putItem_badValue {i : Nat} {p : List Byte} (hi : i < 24 ∨ i = 255) (hnone : itemOf p = none) :
    s.putItem i p = (s, .badValue, []) := by
  rw [State.putItem, if_neg (by simp [hkey]), hnone]
  exact if_neg (by rw [anyIndex]; omega)

theorem State.putItem_full {p : List Byte} {it : Item} (hit : itemOf p = some it)
    (hplace : putPlace s.ret.items 255 = none) : s.putItem 255 p = (s, .full, []) := by
  rw [State.putItem, if_neg (by simp [hkey]), hit, hplace]
  rfl

theorem State.putItem_writes {i k : Nat} {p : List Byte} {it : Item} (hi : i < 24 ∨ i = 255) (hit : itemOf p = some it)
    (hplace : putPlace s.ret.items i = some k) :
    s.putItem i p = (s.writeItem k (it.placed s.ret (s.ret.item k)), .ok, indexWritten k) := by
  rw [State.putItem, if_neg (by simp [hkey]), hit, hplace]
  exact if_neg (by rw [anyIndex]; omega)

theorem State.retireItem_badIndex {i : Nat} (hi : 24 ≤ i) : s.retireItem i = (s, .badIndex, []) := by
  rw [State.retireItem, if_neg (by simp [hkey]), if_pos hi]

theorem State.retireItem_empty {i : Nat} (hi : i < 24) (hempty : s.ret.item i = none) :
    s.retireItem i = (s, .empty, []) := by
  rw [State.retireItem, if_neg (by simp [hkey]), if_neg (by omega), hempty]

theorem State.retireItem_retires {i : Nat} (hi : i < 24) {o : Item} (ho : s.ret.item i = some o) :
    s.retireItem i =
      ((({ s with ret := { s.ret with items := s.ret.items.set i none } } : State).report [.retirement i]).derateReport
        (o.state == ItemState.critical), .ok, []) := by
  rw [State.retireItem, if_neg (by simp [hkey]), if_neg (by omega), ho]

theorem State.serviceDone_badIndex {i : Nat} (hi : 24 ≤ i) : s.serviceDone i = (s, .badIndex) := by
  rw [State.serviceDone, if_neg (by simp [hkey]), if_pos hi]

theorem State.serviceDone_empty {i : Nat} (hi : i < 24) (hempty : s.ret.item i = none) : s.serviceDone i = (s, .empty) := by
  rw [State.serviceDone, if_neg (by simp [hkey]), if_neg (by omega), hempty]

theorem State.serviceDone_restarts {i : Nat} (hi : i < 24) {o : Item} (ho : s.ret.item i = some o)
    (hinterval : 1 ≤ o.interval) (hlead : o.lead ≤ o.interval) :
    s.serviceDone i = (s.writeItem i (Item.afresh s.ret { o with timesDone := min 65535 (o.timesDone + 1) }), .ok) := by
  rw [State.serviceDone, if_neg (by simp [hkey]), if_neg (by omega), ho,
    ← Item.restarted_evaluated s.ret (it := { o with timesDone := min 65535 (o.timesDone + 1) }) hinterval hlead]
  rfl

end

/-! ### The commands -/

theorem State.putEntry_items (s : State) (i : Nat) {p : List Byte} (hp : p.length = 16) : s.putEntry 4 i p = s.putItem i p := by
  simp [State.putEntry, tableRefused, putLength, hp]

theorem exec_serviceDone (hrun : s.phase = .running) {i : Byte} {t : State} {r : ResultCode}
    (h : s.serviceDone i.toNat = (t, r)) : exec (.serviceDone i) s = .next (t.answer 9 r []).deliver := by
  refine (State.commit_running hrun fun s => (s.serviceDone i.toNat).1.answer 9 (s.serviceDone i.toNat).2 []).trans ?_
  rw [h]

theorem exec_serviceDone_refused (h : s.Ready) {i : Byte} {r : ResultCode} (hdone : s.serviceDone i.toNat = (s, r)) :
    exec (.serviceDone i) s = .next (s.answer 9 r []) :=
  (exec_serviceDone h.1 hdone).trans (congrArg Host.Outcome.next (State.deliver_answer_none h.2 _ _ _))

/-- A PUT that is done writes the item that it places at the entry that it names. -/
theorem exec_putItem_writes (h : s.Ready) (hkey : s.pins.keyAsserted = true) {i : Byte} {k : Nat} {it x : Item}
    (hit : it.Sound) (hi : i.toNat < 24 ∨ i.toNat = 255) (hplace : putPlace s.ret.items i.toNat = some k)
    (hx : it.figures.placed s.ret (s.ret.item k) = x) :
    ∃ t, exec (.putEntry 4 i it.payload) s = .next t ∧
      t.EntryWritten s k (some x) (itemConditions k ((s.ret.item k).map Item.state) (some x.state)) 2 (indexWritten k) := by
  have hput := State.putItem_writes hkey hi (itemOf_payload hit) hplace
  rw [hx] at hput
  exact ⟨_, exec_putEntry h.1 ((s.putEntry_items _ it.payload_length).trans hput), .writeItem h.2 _ _ _ _⟩

/-- The same for a PUT that names its entry by its index. -/
theorem exec_putItem_index (h : s.Ready) (hkey : s.pins.keyAsserted = true) {i : Byte} {it x : Item} (hit : it.Sound)
    (hi : i.toNat < 24) {e : Option Item} (he : s.ret.item i.toNat = e) (hx : it.figures.placed s.ret e = x) :
    ∃ t, exec (.putEntry 4 i it.payload) s = .next t ∧
      t.EntryWritten s i.toNat (some x) (itemConditions i.toNat ((s.ret.item i.toNat).map Item.state) (some x.state)) 2 [i] := by
  rw [← indexWritten_toNat]
  exact exec_putItem_writes h hkey hit (.inl hi) (putPlace_index s.ret.items (by omega)) (by rw [he, hx])

end

end Sys2Proof.Machine

open Sys2Proof Sys2Proof.Machine in
/-- Settles O50: a payload reads back as its figures (`itemOf_payload`) and one that is refused is no item's (`itemOf_none`); the
item that is written is new, amended or re-based (`Item.placed_new`, `Item.placed_amended`, `Item.placed_rebased`), or done
(`State.serviceDone_restarts`); and an entry that is written has its reports taken (`State.EntryWritten.deliver`). -/
theorem serviceItemsWritten : Obligations.ServiceItemsWritten := by
  intro s i h hlength meter afresh wrote
  have hany : i = 255 → i.toNat = 255 := fun hi => by rw [hi]; rfl
  have hnotAny : i ≠ 255 → i.toNat ≠ 255 := fun hne heq => hne (BitVec.eq_of_toNat_eq heq)
  refine ⟨fun hout p hp => ⟨?_, ?_, ?_⟩, fun hkey it hit => ⟨fun hi hempty => ?_, fun o hi ho hbasis => ?_,
      fun o hi ho hbasis => ?_, fun k hi hk hempty hbefore => ?_, fun hi hfull => ?_⟩,
    fun hkey p hp => ⟨fun hi hne => ?_, fun hi hnone => ?_⟩,
    fun hkey o hi ho => ⟨fun hinterval hlead => ?_, ?_⟩, fun hkey hi hempty => ⟨?_, ?_⟩, fun hkey hi => ⟨?_, ?_⟩⟩
  · exact exec_putEntry_refused h ((s.putEntry_items _ hp).trans (State.putItem_locked hout _ p))
  · exact exec_retireEntry_refused h (State.retireItem_locked hout _)
  · exact exec_serviceDone_refused h (State.serviceDone_locked hout _)
  · exact exec_putItem_index h hkey hit hi hempty (Item.placed_new s.ret hit)
  · exact exec_putItem_index h hkey hit hi ho (Item.placed_rebased s.ret hit hbasis)
  · exact exec_putItem_index h hkey hit hi ho (Item.placed_amended s.ret hbasis)
  · have hplace : putPlace s.ret.items i.toNat = some k := by
      rw [hany hi]
      exact putPlace_lowest (by omega) hempty hbefore
    exact exec_putItem_writes h hkey hit (.inr (hany hi)) hplace (by rw [hempty]; exact Item.placed_new s.ret hit)
  · have hplace : putPlace s.ret.items 255 = none := putPlace_full <| List.forall_mem_iff_getElem.mpr fun k hk => by
      rw [← List.getD_eq_getElem _ none hk]
      exact hfull k (by omega)
    have hput := State.putItem_full hkey (itemOf_payload hit) hplace
    rw [← hany hi] at hput
    exact exec_putEntry_refused h ((s.putEntry_items _ it.payload_length).trans hput)
  · exact exec_putEntry_refused h ((s.putEntry_items _ hp).trans (State.putItem_badIndex hkey p ⟨hi, hnotAny hne⟩))
  · exact exec_putEntry_refused h
      ((s.putEntry_items _ hp).trans (State.putItem_badValue hkey (hi.imp id hany) (itemOf_none hp hnone)))
  · exact ⟨_, exec_serviceDone h.1 (State.serviceDone_restarts hkey hi ho hinterval hlead),
      State.EntryWritten.writeItem h.2 _ _ _ _⟩
  · exact ⟨_, exec_retireEntry h.1 (State.retireItem_retires hkey hi ho), State.EntryWritten.deliver h.2 _ _ _ _ _ _⟩
  · exact exec_serviceDone_refused h (State.serviceDone_empty hkey hi hempty)
  · exact exec_retireEntry_refused h (State.retireItem_empty hkey hi hempty)
  · exact exec_serviceDone_refused h (State.serviceDone_badIndex hkey hi)
  · exact exec_retireEntry_refused h (State.retireItem_badIndex hkey hi)
end

-- ==== Proofs of sitting 12: Rnd ====

section
/-! PROOFS. Rnd (00, Rounding): its value on the numbers from 0 up, its symmetry about zero, and its distance from the quotient. -/

namespace Sys2Proof.Machine

theorem rndDiv_natCast (n d : Nat) : rndDiv n d = ((2 * n + d) / (2 * d) : Nat) := by
  rw [rndDiv, if_pos (Int.natCast_nonneg n), Int.toNat_natCast]

theorem rndDiv_zero (d : Nat) : rndDiv 0 d = 0 := by
  have hdiv : d / (2 * d) = 0 := Nat.div_eq_zero_iff.mpr (by omega)
  simpa [hdiv] using rndDiv_natCast 0 d

/-- Symmetry about zero, for the denominator 0 as well. -/
theorem rndDiv_neg (n : Int) (d : Nat) : rndDiv (-n) d = -rndDiv n d := by
  rcases lt_trichotomy n 0 with hneg | rfl | hpos
  · rw [rndDiv, rndDiv, if_pos (by omega), if_neg (by omega), neg_neg]
  · rw [neg_zero, rndDiv_zero, neg_zero]
  · rw [rndDiv, rndDiv, if_neg (by omega), if_pos hpos.le, neg_neg]

/-- `r` is nearest to the quotient n / d and, where the quotient lies halfway, the integer further from zero. -/
def NearestAway (n : Int) (d : Nat) (r : Int) : Prop :=
  2 * (n - d * r).natAbs ≤ d ∧ (2 * (n - d * r).natAbs = d → n.natAbs < d * r.natAbs)

theorem NearestAway.neg {n r : Int} {d : Nat} (h : NearestAway n d r) : NearestAway (-n) d (-r) := by
  have hdiff : -n - d * -r = -(n - d * r) := by ring
  simpa only [NearestAway, hdiff, Int.natAbs_neg] using h

/-- For a quotient from 0 up, d r lies above n - d / 2 and at most at n + d / 2: halfway it is the upper bound that is reached. -/
theorem nearestAway_rndDiv_natCast (n : Nat) {d : Nat} (hd : 0 < d) : NearestAway n d (rndDiv n d) := by
  rw [rndDiv_natCast]
  generalize hq : (2 * n + d) / (2 * d) = q
  obtain ⟨hle, hlt⟩ := (Nat.div_eq_iff (by omega)).mp hq
  have hprod : q * (2 * d) = 2 * (d * q) := by ring
  rw [hprod] at hle hlt
  rw [NearestAway, ← Nat.cast_mul, Int.natAbs_natCast, Int.natAbs_natCast]
  omega

theorem nearestAway_rndDiv (n : Int) {d : Nat} (hd : 0 < d) : NearestAway n d (rndDiv n d) := by
  obtain ⟨m, rfl | rfl⟩ := n.eq_nat_or_neg
  · exact nearestAway_rndDiv_natCast m hd
  · rw [rndDiv_neg]
    exact (nearestAway_rndDiv_natCast m hd).neg

end Sys2Proof.Machine

open Sys2Proof Sys2Proof.Machine in
/-- Settles O22: Rnd is symmetric about zero (`rndDiv_neg`), so that a numerator below 0 follows from its opposite
(`NearestAway.neg`). -/
theorem rndNearest : Obligations.RndNearest := by
  intro n d hd
  obtain ⟨hnearest, haway⟩ := nearestAway_rndDiv n hd
  exact ⟨hnearest, haway, rndDiv_neg n d⟩
end

-- ==== Proofs of sitting 12: the front of the queue ====

section
/-! PROOFS. A queue that is not empty: its front command is taken (log entry 1); `step_empty` gives the other case. -/

namespace Sys2Proof.Machine

theorem step_queued {s : State} {c : Instr} {rest : List Instr} (h : s.pending = c :: rest) :
    step s = exec c { s with pending := rest } := by
  unfold step
  rw [h]

end Sys2Proof.Machine

open Sys2Proof.Machine in
/-- Settles O1: `step_queued` at a state whose queue is written out; the rest of the queue takes its place. -/
theorem stepRunsFrontCommand : Obligations.StepRunsFrontCommand := by
  intro c rest s
  exact step_queued (s := { s with pending := c :: rest }) rfl
end
